-- ==== Sys2Proof/Word.lean ====
section
/-! DEFINITION. The value widths of the block (spec rules R7, R11, R12): every value is unsigned. -/

namespace Sys2Proof

/-- A command word, a status word, a counter or an active configuration register: 32 bits (R7 `CAL_W`, `CNT_W`, R56). -/
abbrev Word := BitVec 32

/-- A raw configuration value: 16 bits (R7 `RAW_W`, R20). -/
abbrev Half := BitVec 16

/-- One byte of the calibration image (R19). -/
abbrev Byte := BitVec 8

/-- One SENSE_IN reading: 10 bits (R7 `SAMPLE_W`). -/
abbrev Reading := BitVec 10

/-- A status-port address, `SADDR` (R31). -/
abbrev StatusAddr := BitVec 4

end Sys2Proof
end

