-- ==== Sys2Proof/Syntax.lean ====
section
/-! DEFINITION. The commands of the block: one constructor of `Instr` per row of spec/opcode_table.json (R58, R59), with
operands at the widths R60 gives them, so that an operand out of range cannot be written down. -/

namespace Sys2Proof

/-- Feature-mode, the values of register MODE (R21). -/
inductive FeatureMode where
  /-- MODE = 0: the duty-cycle state machine never runs. -/
  | protectionOnly
  /-- MODE = 1: the duty-cycle state machine runs. -/
  | fullFeature
deriving DecidableEq, Repr

/-- The commands a host presents on the command port (R2, R59). -/
inductive Instr where
  /-- Do nothing (R110). -/
  | nop
  /-- Reset the whole block (R111). -/
  | reset
  /-- Write factor byte `idx` of the calibration image (R79). -/
  | wrfac (idx : BitVec 2) (byte : Byte)
  /-- Write the validity/magic byte of the calibration image (R80). -/
  | wrmag (byte : Byte)
  /-- Write the raw on-cycle-count (R83). -/
  | wron (n : Half)
  /-- Write the raw off-cycle-count (R84). -/
  | wroff (n : Half)
  /-- Write the raw undervoltage threshold (R85). -/
  | wrthr (n : Half)
  /-- Write feature-mode (R86). -/
  | wrmode (m : FeatureMode)
  /-- Commit the configuration and begin running (R87). -/
  | start
  /-- Advance the block by one wake tick (R91). -/
  | tick
deriving DecidableEq, Repr

/-- The mode operand of the assembler's `WRMODE` (R65): `FULL`, `PROT` or a number. -/
inductive AsmMode where
  | full
  | prot
  | number (m : Nat)
deriving DecidableEq, Repr

/-- One line of assembler source (R65): a command with the operand numbers as they are written, so an operand may be out
of range; a pseudo-instruction (R66–R69); or a raw word (R71). -/
inductive AsmLine where
  | nop
  | reset
  | wrfac (idx byte : Nat)
  | wrmag (byte : Nat)
  | wron (n : Nat)
  | wroff (n : Nat)
  | wrthr (n : Nat)
  | wrmode (m : AsmMode)
  | start
  | tick
  /-- `LDCAL f, m` (R66). -/
  | ldcal (f m : Nat)
  /-- `CONFIG on, off, thr, mode` (R67). -/
  | config (on off thr : Nat) (mode : AsmMode)
  /-- `TICKS n` (R68). -/
  | ticks (n : Nat)
  /-- `BOOT on, off, thr, mode` (R69). -/
  | boot (on off thr : Nat) (mode : AsmMode)
  /-- `BOOT on, off, thr, mode, f, m` (R69). -/
  | bootCal (on off thr : Nat) (mode : AsmMode) (f m : Nat)
  /-- `.word w` (R71). -/
  | word (w : Nat)
deriving DecidableEq, Repr

end Sys2Proof
end

