-- ==== Sys2Proof/WellFormed.lean ====
section
/-! DEFINITION. The operand ranges of R60 and R71. A term of `Instr` meets them by its types; a line of assembler source
carries plain numbers, and the checks are here: an operand out of range is an assembly error. -/

namespace Sys2Proof

/-- `mode` is 0, 1, FULL or PROT (R71). -/
def AsmMode.wellFormed : AsmMode → Bool
  | .full => true
  | .prot => true
  | .number m => m ≤ 1

/-- `idx` is at most 3 (R71). -/
def idxInRange (idx : Nat) : Bool := idx ≤ 3

/-- `byte` is at most 255 (R71). -/
def byteInRange (b : Nat) : Bool := b ≤ 255

/-- `n` is at most 65535 (R71). -/
def rawInRange (n : Nat) : Bool := n ≤ 65535

/-- A 32-bit value: the factor of LDCAL (R66), a raw word (R71). DEDUCED: R71's list does not name them (assumption
log 14). -/
def wordInRange (n : Nat) : Bool := n < 2 ^ 32

/-- Every operand of the line is in range (R71; for a pseudo-instruction, every operand of its expansion, R66–R69). -/
def AsmLine.wellFormed : AsmLine → Bool
  | .nop => true
  | .reset => true
  | .wrfac idx byte => idxInRange idx && byteInRange byte
  | .wrmag byte => byteInRange byte
  | .wron n => rawInRange n
  | .wroff n => rawInRange n
  | .wrthr n => rawInRange n
  | .wrmode m => m.wellFormed
  | .start => true
  | .tick => true
  | .ldcal f m => wordInRange f && byteInRange m
  | .config on off thr mode => rawInRange on && rawInRange off && rawInRange thr && mode.wellFormed
  | .ticks _ => true
  | .boot on off thr mode => rawInRange on && rawInRange off && rawInRange thr && mode.wellFormed
  | .bootCal on off thr mode f m =>
      rawInRange on && rawInRange off && rawInRange thr && mode.wellFormed && wordInRange f && byteInRange m
  | .word w => wordInRange w

end Sys2Proof
end

