-- ==== Sys2Proof/Decode.lean ====
section
/-! DEFINITION. The decoder (R61) over the opcode table (R59), with the reason of every rejection by name (R62), and the
encoder (R70). The command word is a parallel 32-bit value with no byte order (R44). -/

namespace Sys2Proof

/-- Field OP, bits 31:28 (R57). -/
def opField (w : Word) : BitVec 4 := w.extractLsb' 28 4

/-- Field ADDR, bits 27:24 (R57). -/
def addrField (w : Word) : BitVec 4 := w.extractLsb' 24 4

/-- Field RSV, bits 23:16 (R57). -/
def rsvField (w : Word) : BitVec 8 := w.extractLsb' 16 8

/-- Field DATA, bits 15:0 (R57). -/
def dataField (w : Word) : Half := w.extractLsb' 0 16

/-- WRFAC's byte index, `w[25:24]` (R60). -/
def idxOperand (w : Word) : BitVec 2 := w.extractLsb' 24 2

/-- The byte operand of WRFAC and WRMAG, `w[7:0]` (R60). -/
def byteOperand (w : Word) : Byte := w.extractLsb' 0 8

/-- The 16-bit operand of WRON, WROFF and WRTHR, `w[15:0]` (R60). -/
def rawOperand (w : Word) : Half := w.extractLsb' 0 16

/-- Feature-mode from its bit: 1 = FullFeature, 0 = ProtectionOnly (R60). -/
def FeatureMode.ofBool (b : Bool) : FeatureMode := if b then .fullFeature else .protectionOnly

/-- The bit of a feature-mode (R21). -/
def FeatureMode.toBool : FeatureMode → Bool
  | .protectionOnly => false
  | .fullFeature => true

/-- WRMODE's operand, `w[0]` (R60). -/
def modeOperand (w : Word) : FeatureMode := FeatureMode.ofBool (w.getLsbD 0)

/-- One row of the opcode table (R59), with its operand assembly (R60). -/
structure Row where
  mnemonic : String
  matchBits : Word
  mask : Word
  build : Word → Instr

/-- The opcode table, in table order (R59). -/
def opcodeTable : List Row :=
  [ ⟨"NOP",    0x00000000#32, 0xFFFFFFFF#32, fun _ => .nop⟩,
    ⟨"RESET",  0x10000000#32, 0xFFFFFFFF#32, fun _ => .reset⟩,
    ⟨"WRFAC",  0x20000000#32, 0xFCFFFF00#32, fun w => .wrfac (idxOperand w) (byteOperand w)⟩,
    ⟨"WRMAG",  0x30000000#32, 0xFFFFFF00#32, fun w => .wrmag (byteOperand w)⟩,
    ⟨"WRON",   0x40000000#32, 0xFFFF0000#32, fun w => .wron (rawOperand w)⟩,
    ⟨"WROFF",  0x50000000#32, 0xFFFF0000#32, fun w => .wroff (rawOperand w)⟩,
    ⟨"WRTHR",  0x60000000#32, 0xFFFF0000#32, fun w => .wrthr (rawOperand w)⟩,
    ⟨"WRMODE", 0x70000000#32, 0xFFFFFFFE#32, fun w => .wrmode (modeOperand w)⟩,
    ⟨"START",  0x80000000#32, 0xFFFFFFFF#32, fun _ => .start⟩,
    ⟨"TICK",   0x90000000#32, 0xFFFFFFFF#32, fun _ => .tick⟩ ]

/-- `(w AND mask) = match` (R59). -/
def Row.matchesWord (r : Row) (w : Word) : Bool := w &&& r.mask == r.matchBits

/-- Why a word encodes no command (R62). -/
inductive Illegal where
  /-- OP is one of the unassigned codes 0xA to 0xF (R58). -/
  | unassignedOp
  /-- ADDR holds a bit the command does not use. -/
  | addrNotZero
  /-- RSV is not zero. -/
  | rsvNotZero
  /-- DATA holds a bit the command does not use. -/
  | dataNotZero
deriving DecidableEq, Repr

/-- What the decoder answers: a command, or ILLEGAL with the reason (R61). -/
inductive Decoded where
  | command (i : Instr)
  | illegal (why : Illegal)
deriving DecidableEq, Repr

/-- The bits of ADDR that a command with this OP does not use: ADDR[3:2] for WRFAC, all of ADDR for the others (R57). -/
def unusedAddr (w : Word) : BitVec 4 :=
  if opField w = 2#4 then addrField w &&& 0b1100#4 else addrField w

/-- The reason a word that matches no row is ILLEGAL, the first of R62's list that holds. -/
def illegalReason (w : Word) : Illegal :=
  if 10 ≤ (opField w).toNat then .unassignedOp
  else if unusedAddr w ≠ 0#4 then .addrNotZero
  else if rsvField w ≠ 0#8 then .rsvNotZero
  else .dataNotZero

/-- The decoder: the first row that matches, with its operands, else ILLEGAL (R61). Total on every word. -/
def decode (w : Word) : Decoded :=
  match opcodeTable.find? (fun r => r.matchesWord w) with
  | some r => .command (r.build w)
  | none => .illegal (illegalReason w)

/-- The encoder (R70). -/
def encode : Instr → Word
  | .nop => 0x00000000#32
  | .reset => 0x10000000#32
  | .wrfac i b => 0x20000000#32 ||| (i.setWidth 32 <<< 24) ||| b.setWidth 32
  | .wrmag b => 0x30000000#32 ||| b.setWidth 32
  | .wron d => 0x40000000#32 ||| d.setWidth 32
  | .wroff d => 0x50000000#32 ||| d.setWidth 32
  | .wrthr d => 0x60000000#32 ||| d.setWidth 32
  | .wrmode m => 0x70000000#32 ||| (BitVec.ofBool m.toBool).setWidth 32
  | .start => 0x80000000#32
  | .tick => 0x90000000#32

/-- The row of the opcode table whose mnemonic is the command's, by its place in the table (R59). -/
def Instr.rowIndex : Instr → Fin 10
  | .nop => 0
  | .reset => 1
  | .wrfac _ _ => 2
  | .wrmag _ => 3
  | .wron _ => 4
  | .wroff _ => 5
  | .wrthr _ => 6
  | .wrmode _ => 7
  | .start => 8
  | .tick => 9

/-- The word of an instruction that the table gives `nbits` bits, numbered as the table numbers them; the bits above
`nbits` are 0. -/
def tableWord (nbits w : Nat) : Word := BitVec.ofNat 32 (w % 2 ^ nbits)

/-- What the decoder reads from the `nbits` bits `w`. Every command is one 32-bit word (R56), so more bits are none. -/
def decodeTableWord (nbits w : Nat) : Option Instr :=
  if nbits ≤ 32 then
    match decode (tableWord nbits w) with
    | .command i => some i
    | .illegal _ => none
  else none

end Sys2Proof
end

