-- ==== Sys2Proof/Config.lean ====
section
/-! DEFINITION. The implementation parameters of R7, under the constraints of R8. A parameter R7 marks OPEN has no value
here: it is a constant with no body, or built from one, so a proof can use the constraints of R8 and nothing else. -/

namespace Sys2Proof

/-- The three OPEN parameters of the calibrator and the calibration image, as an argument (R7). -/
structure Params where
  /-- `NOMINAL_HZ`: nominal oscillator frequency, the calibrator's divisor. -/
  nominalHz : Nat
  /-- `TOL_HZ`: half-width of the acceptance band. -/
  tolHz : Nat
  /-- `MAGIC`: the expected validity marker in byte 4 of the calibration image. -/
  magic : Byte
deriving DecidableEq, Repr

/-- The constraints of R8 on the OPEN parameters. -/
abbrev Params.Legal (p : Params) : Prop := 1 ≤ p.nominalHz ∧ p.tolHz < p.nominalHz

namespace Config

/-- `UV_INTERVAL`, the measurement interval in ticks of load-on time (R7). -/
def uvInterval : Nat := 110

/-- `LOG2N`, the averager's right-shift (R7). -/
def log2n : Nat := 5

/-- `SAMPLE_COUNT` = 2^LOG2N readings a sample (R7, R8). -/
def sampleCount : Nat := 2 ^ log2n

/-- The free value behind `NOMINAL_HZ`: any natural number (assumption log 1). -/
opaque nominalPred : Nat

/-- The free value behind `TOL_HZ`: any natural number (assumption log 1). -/
opaque tolSeed : Nat

/-- `MAGIC`, OPEN (assumption log 1): any byte. -/
opaque magic : Byte

/-- `NOMINAL_HZ`, OPEN: any natural number of at least 1 (R7, R8). -/
def nominalHz : Nat := nominalPred + 1

/-- `TOL_HZ`, OPEN: any natural number below NOMINAL_HZ (R7, R8). -/
def tolHz : Nat := tolSeed % nominalHz

/-- The OPEN parameters of this hardware. -/
def params : Params := ⟨nominalHz, tolHz, magic⟩

/-- The sense environment beyond the readings the state lists: reading number `k` is any value (R9, R95; assumption
log 2). -/
opaque senseIn : Nat → Reading

end Config

end Sys2Proof
end

