-- ==== Sys2Proof/Machine/State.lean ====
section
/-! DEFINITION. The state of the block: every register of R17, and beside them the model's own fields, which hold what the
outside world does next (R9, R40) and what the last step showed it (R14, R31). All of it is plain data. -/

namespace Sys2Proof.Machine

/-- The sequencing state PHASE (R18): 0 = CFG, 1 = RUN. -/
inductive Phase where
  | cfg
  | run
deriving DecidableEq, Repr

/-- DUTY = ON (R24). -/
abbrev dutyOn : BitVec 2 := 0b01#2

/-- DUTY = OFF (R24). -/
abbrev dutyOff : BitVec 2 := 0b10#2

/-- The output events of a step (R14). -/
inductive Event where
  /-- The LOAD output becomes 1. -/
  | loadOn
  /-- The LOAD output becomes 0. -/
  | loadOff
  /-- SENSE_EN becomes 1. -/
  | senseOn
  /-- SENSE_EN becomes 0. -/
  | senseOff
  /-- One SENSE_IN reading returned `x`. -/
  | read (x : Reading)
deriving DecidableEq, Repr

/-- The names of the registers of R17. -/
inductive RegName where
  | phase | img0 | img1 | img2 | img3 | img4 | rawOn | rawOff | rawThr | mode | calF | calV
  | onCnt | offCnt | thr | duty | dcnt | vcnt | latch | load | senseEn
deriving DecidableEq, Repr

/-- What the outside world does next at the block's signals (R40). DESIGN CHOICE where the spec sets no limit: at most one
status read falls inside a command (R140; assumption log 4), and none inside a command that RST_N ends (R132; assumption
log 5). -/
inductive HostInput where
  /-- The host offers the word `w` on CMD with CMD_VALID = 1 and the block takes it (R56, R138). -/
  | command (w : Word)
  /-- The host reads status location `a` between commands (R31, R33). -/
  | statusRead (a : StatusAddr)
  /-- The host reads status location `a` while the block executes `w`: the registers in `seen` show their value after the
  command, the others their value before it (R140; a free choice per register). One read a command: DESIGN CHOICE
  (assumption log 4). -/
  | commandStatusRead (w : Word) (a : StatusAddr) (seen : List RegName)
  /-- RST_N is asserted between commands (R132). -/
  | resetInput
  /-- RST_N is asserted while the block executes `w`, after `n` of its events (R132; a free choice of `n`). No status
  read falls inside it: DESIGN CHOICE (assumption log 5). -/
  | commandReset (w : Word) (n : Nat)
  /-- Power is applied again (R132). -/
  | powerOn
deriving DecidableEq, Repr

/-- The state of the machine. -/
structure State where
  /-- PHASE, 1 bit (R18). -/
  phase : Phase
  /-- IMG0, 8 bits, the most significant factor byte (R19). -/
  img0 : Byte
  /-- IMG1, 8 bits (R19). -/
  img1 : Byte
  /-- IMG2, 8 bits (R19). -/
  img2 : Byte
  /-- IMG3, 8 bits, the least significant factor byte (R19). -/
  img3 : Byte
  /-- IMG4, 8 bits, the validity/magic byte (R19). -/
  img4 : Byte
  /-- RAW_ON, 16 bits (R20). -/
  rawOn : Half
  /-- RAW_OFF, 16 bits (R20). -/
  rawOff : Half
  /-- RAW_THR, 16 bits (R20). -/
  rawThr : Half
  /-- MODE, 1 bit (R21). -/
  mode : FeatureMode
  /-- CAL_F, 32 bits (R22). -/
  calF : Word
  /-- CAL_V, 1 bit (R22). -/
  calV : Bool
  /-- ON_CNT, 32 bits (R23). -/
  onCnt : Word
  /-- OFF_CNT, 32 bits (R23). -/
  offCnt : Word
  /-- THR, 32 bits (R23). -/
  thr : Word
  /-- DUTY, 2 bits (R24). -/
  duty : BitVec 2
  /-- DCNT, 32 bits (R25). -/
  dcnt : Word
  /-- VCNT, 32 bits (R26). -/
  vcnt : Word
  /-- LATCH, 1 bit (R27). -/
  latch : Bool
  /-- LOAD, 1 bit (R28). -/
  load : Bool
  /-- SENSE_EN, 1 bit (R29). -/
  senseEn : Bool
  /-- MODEL: the OPEN parameters (R7) as the argument R7 asks for; `none` stands for the hardware's own, `Config.params`.
  Nothing writes them (assumption log 1). -/
  openParams : Option Params
  /-- MODEL: what the outside world does next, the first first (R9, R40). -/
  host : List HostInput
  /-- MODEL: the readings the sense environment supplies next, the first first (R9, R10). -/
  sense : List Reading
  /-- MODEL: how many readings were drawn beyond those listed; the next one is `Config.senseIn senseDraws` (R9). -/
  senseDraws : Nat
  /-- MODEL: the events of the step in progress, then of the last step, in order (R10, R14). -/
  events : List Event
  /-- MODEL: SDATA as the last step's status read returned it; none where the last step read nothing (R31). -/
  readData : Option Word
deriving DecidableEq, Repr

/-- The reasons for which the machine could stop with a fault. There are none: no command, operand value or state makes a
step fail (R116). Nothing raises one, which is safe or unsafe exactly as that rule is. -/
inductive Fault : Type
deriving DecidableEq, Repr

/-- The reasons for which an instruction has no meaning. -/
inductive Refusal where
  /-- Raised by an arm of `exec` whose instruction has no meaning yet. No arm raises it: every command of the table has its
  meaning. Safe: a refusal stops the machine where the hardware goes on. -/
  | notModelled (mnemonic : String)
deriving DecidableEq, Repr

/-- What a step or a meaning answers. -/
abbrev Result := Host.Outcome State Fault Refusal

/-- The machine right after reset: every register at its reset value (R17, R132); the OPEN
parameters are those of the hardware, the outside world does nothing and no reading is listed (assumption log 3). -/
def State.reset : State where
  phase := .cfg
  img0 := 0x00#8
  img1 := 0x00#8
  img2 := 0x00#8
  img3 := 0x00#8
  img4 := 0x00#8
  rawOn := 0#16
  rawOff := 0#16
  rawThr := 0#16
  mode := .protectionOnly
  calF := 0x00000000#32
  calV := false
  onCnt := 0#32
  offCnt := 0#32
  thr := 0#32
  duty := dutyOn
  dcnt := 0#32
  vcnt := 0#32
  latch := false
  load := true
  senseEn := false
  openParams := none
  host := []
  sense := []
  senseDraws := 0
  events := []
  readData := none

end Sys2Proof.Machine
end

