-- ==== Sys2Proof/Machine/Operands.lean ====
section
/-! DEFINITION. The operand forms of the block: the bytes of the calibration image by index (R41, R42), the big-endian
factor they form (R43), and zero extension (R12, R60). -/

namespace Sys2Proof.Machine

/-- The OPEN parameters the block works with: those supplied, else the hardware's own (R7; assumption log 1). -/
@[simp] def State.params (s : State) : Params := s.openParams.getD Config.params

/-- `zext_32` of a 16-bit value (R12). -/
def zext32 (v : Half) : Word := v.setWidth 32

/-- `zext_32` of a byte (R12). -/
def zextByte (b : Byte) : Word := b.setWidth 32

/-- `IMG[i]` for the four factor bytes, `i` from 0 to 3 (R13, R41). -/
def State.imgByte (s : State) (i : BitVec 2) : Byte :=
  if i = 0#2 then s.img0 else if i = 1#2 then s.img1 else if i = 2#2 then s.img2 else s.img3

/-- `IMG[i] <- b` for the four factor bytes (R79). -/
def State.setImgByte (s : State) (i : BitVec 2) (b : Byte) : State :=
  if i = 0#2 then { s with img0 := b } else if i = 1#2 then { s with img1 := b }
  else if i = 2#2 then { s with img2 := b } else { s with img3 := b }

/-- The calibration factor in the image, most significant byte first (R43). -/
def State.imgFactor (s : State) : Word := s.img0 ++ s.img1 ++ s.img2 ++ s.img3

end Sys2Proof.Machine
end

