-- ==== Sys2Proof/Machine/Flags.lean ====
section
/-! DEFINITION. The comparators and gates of the block, each one condition of the spec, and the STATUS word (R32). All
comparisons are on natural numbers (R12). -/

namespace Sys2Proof.Machine

/-- The factor lies in the closed acceptance band (R74). -/
def inBand (p : Params) (f : Word) : Bool :=
  p.nominalHz - p.tolHz ≤ f.toNat && f.toNat ≤ p.nominalHz + p.tolHz

/-- The image's byte 4 is the validity marker (R42, R78). -/
def magicMatches (s : State) : Bool := s.img4 == s.params.magic

/-- The incremented interval accumulator has reached the measurement interval (R94). -/
def atBoundary (vc : Word) : Bool := Config.uvInterval ≤ vc.toNat

/-- The averaged sample is strictly below the threshold (R97). -/
def trips (avg : Nat) (thr : Word) : Bool := avg < thr.toNat

/-- The incremented tick accumulator has reached the count of the current state (R101, R102). -/
def countReached (dc cnt : Word) : Bool := cnt.toNat ≤ dc.toNat

/-- The state-machine gate: FullFeature and not latched (R99). -/
def dutyEnabled (s : State) : Bool := s.mode == .fullFeature && !s.latch

/-- The bit of PHASE (R18). -/
def Phase.toBool : Phase → Bool
  | .cfg => false
  | .run => true

/-- The STATUS word: bit 7 SENSE_EN, 6 CAL_V, 5 MODE, 4 PHASE, 3:2 DUTY, 1 LATCH, 0 LOAD, the rest 0 (R32). -/
def State.statusWord (s : State) : Word :=
  0#24 ++ BitVec.ofBool s.senseEn ++ BitVec.ofBool s.calV ++ BitVec.ofBool s.mode.toBool ++
    BitVec.ofBool s.phase.toBool ++ s.duty ++ BitVec.ofBool s.latch ++ BitVec.ofBool s.load

end Sys2Proof.Machine
end

