-- ==== Sys2Proof/Machine/Ops.lean ====
section
/-! DEFINITION. The shared operations: events and the two outputs (R13, R14), the acceptance check (R113), reset (R132), and
the sense environment (R9, R10). The block raises no exception (R116), so there is no exception entry and no return. -/

namespace Sys2Proof.Machine

/-- `emit(e)`: append `e` to the step's events (R13). -/
def emit (e : Event) (s : State) : State := { s with events := s.events ++ [e] }

/-- `setLoad(x)`: a change of LOAD emits its event, a write of the value it holds emits nothing (R91, R14). -/
def setLoad (x : Bool) (s : State) : State :=
  if s.load = x then s else emit (if x then .loadOn else .loadOff) { s with load := x }

/-- A write of SENSE_EN: a change emits its event, a write of the value it holds emits nothing (R14). -/
def setSenseEn (x : Bool) (s : State) : State :=
  if s.senseEn = x then s else emit (if x then .senseOn else .senseOff) { s with senseEn := x }

/-- The acceptance check: `f` acts in phase `p`; in the other phase the command is ignored (R113). -/
def inPhase (p : Phase) (f : State → State) (s : State) : State := if s.phase = p then f s else s

/-- `apply_reset()`: every register to its reset value (R132), the outputs with the events their changes are (R14, R111).
The fields that are no register keep their values. -/
def applyReset (s : State) : State :=
  { setSenseEn false (setLoad true s) with
    phase := .cfg
    img0 := 0x00#8
    img1 := 0x00#8
    img2 := 0x00#8
    img3 := 0x00#8
    img4 := 0x00#8
    rawOn := 0#16
    rawOff := 0#16
    rawThr := 0#16
    mode := .protectionOnly
    calF := 0x00000000#32
    calV := false
    onCnt := 0#32
    offCnt := 0#32
    thr := 0#32
    duty := dutyOn
    dcnt := 0#32
    vcnt := 0#32
    latch := false }

/-- The next reading the sense environment supplies: the next one listed, and beyond the list a free value (R9). -/
def nextReading (s : State) : Reading :=
  match s.sense with
  | x :: _ => x
  | [] => Config.senseIn s.senseDraws

/-- The state once the next reading is consumed (R10, R13). -/
def consumeReading (s : State) : State :=
  match s.sense with
  | _ :: xs => { s with sense := xs }
  | [] => { s with senseDraws := s.senseDraws + 1 }

/-- The next `n` readings of the sense environment: the sequence `r` of R10, as long as asked for. -/
def upcoming : Nat → State → List Reading
  | 0, _ => []
  | n + 1, s => nextReading s :: upcoming n (consumeReading s)

/-- The state once the next `n` readings are consumed. -/
def consumeReadings : Nat → State → State
  | 0, s => s
  | n + 1, s => consumeReadings n (consumeReading s)

end Sys2Proof.Machine
end

