-- ==== Sys2Proof/Machine/Calibration.lean ====
section
/-! DEFINITION. The calibrator (R73–R77), `cal_load` (R78), and the commands of the calibration image (R79, R80). The OPEN
parameters are an argument of the calibrator, as R7 asks; the commands take the state's. -/

namespace Sys2Proof.Machine

/-- `calibrate(v, f, raw)`: the exact product divided by the nominal frequency, rounded down, for a valid factor in band;
the raw value otherwise (R73–R76). -/
def calibrate (p : Params) (v : Bool) (f : Word) (raw : Half) : Word :=
  if v && inBand p f then BitVec.ofNat 32 (f.toNat * raw.toNat / p.nominalHz) else zext32 raw

/-- `cal_load()`: CAL_F from the four factor bytes, CAL_V from the magic byte (R78). -/
def calLoad (s : State) : State := { s with calF := s.imgFactor, calV := magicMatches s }

/-- `WRFAC idx, byte` (R79). -/
def execWrfac (idx : BitVec 2) (byte : Byte) (s : State) : Result :=
  .next (inPhase .cfg (fun s => s.setImgByte idx byte) s)

/-- `WRMAG byte` (R80). -/
def execWrmag (byte : Byte) (s : State) : Result :=
  .next (inPhase .cfg (fun s => { s with img4 := byte }) s)

end Sys2Proof.Machine
end

