-- ==== Sys2Proof/Machine/Configuration.lean ====
section
/-! DEFINITION. The configuration commands and START (R83–R87). -/

namespace Sys2Proof.Machine

/-- `WRON n` (R83). -/
def execWron (n : Half) (s : State) : Result := .next (inPhase .cfg (fun s => { s with rawOn := n }) s)

/-- `WROFF n` (R84). -/
def execWroff (n : Half) (s : State) : Result := .next (inPhase .cfg (fun s => { s with rawOff := n }) s)

/-- `WRTHR n` (R85). -/
def execWrthr (n : Half) (s : State) : Result := .next (inPhase .cfg (fun s => { s with rawThr := n }) s)

/-- `WRMODE m` (R86). -/
def execWrmode (m : FeatureMode) (s : State) : Result := .next (inPhase .cfg (fun s => { s with mode := m }) s)

/-- The three calibrated values of the active configuration (R87; the threshold too, 90_conflicts C3). -/
def loadConfiguration (s : State) : State :=
  { s with
    onCnt := calibrate s.params s.calV s.calF s.rawOn
    offCnt := calibrate s.params s.calV s.calF s.rawOff
    thr := calibrate s.params s.calV s.calF s.rawThr }

/-- What START does in CFG phase (R87). The write of LOAD emits its event where it is a change (R14; assumption log 6). -/
def commit (s : State) : State :=
  { setLoad true (loadConfiguration (calLoad s)) with
    duty := dutyOn
    dcnt := 0#32
    vcnt := 0#32
    latch := false
    phase := .run }

/-- `START` (R87). -/
def execStart (s : State) : Result := .next (inPhase .cfg commit s)

end Sys2Proof.Machine
end

