-- ==== Sys2Proof/Machine/Control.lean ====
section
/-! DEFINITION. NOP, RESET and the ignored words (R110–R112). -/

namespace Sys2Proof.Machine

/-- `NOP` (R110). -/
def execNop (s : State) : Result := .next s

/-- `RESET` (R111). -/
def execReset (s : State) : Result := .next (applyReset s)

/-- An ILLEGAL word is ignored as a whole, whatever the reason (R112). -/
def ignoreIllegal (_ : Illegal) (s : State) : Result := .next s

end Sys2Proof.Machine
end

