-- ==== Sys2Proof/Machine/Tick.lean ====
section
/-! DEFINITION. TICK: the undervoltage monitor (R93–R98), then the duty-cycle state machine (R99–R103). -/

namespace Sys2Proof.Machine

/-- `average(sum)`: the sum shifted right by LOG2N (R96). -/
def average (sum : Nat) : Nat := sum >>> Config.log2n

/-- The reading loop of `sample`: `n` readings still to take, each with its READ event; the sum (R95). -/
def sampleLoop : Nat → Nat → State → Nat × State
  | 0, sum, s => (sum, s)
  | n + 1, sum, s => sampleLoop n (sum + (nextReading s).toNat) (emit (.read (nextReading s)) (consumeReading s))

/-- `sample(r)`: sense enable on, SAMPLE_COUNT readings, sense enable off, the average (R95). -/
def sample (s : State) : Nat × State :=
  let r := sampleLoop Config.sampleCount 0 (emit .senseOn { s with senseEn := true })
  (average r.1, emit .senseOff { r.2 with senseEn := false })

/-- `uv_compare(avg)`: on a trip the load goes off and the latch is set (R97, R98). -/
def uvCompare (avg : Nat) (s : State) : State :=
  if trips avg s.thr then { setLoad false s with latch := true } else s

/-- `uv_accumulate(r)`: increment, compare, and sample at a boundary (R94). -/
def uvAccumulate (s : State) : State :=
  if atBoundary (s.vcnt + 1#32) then
    let r := sample { s with vcnt := 0#32 }
    uvCompare r.1 r.2
  else { s with vcnt := s.vcnt + 1#32 }

/-- `monitor_step(r)`: the monitor runs only while the load is energized (R93). -/
def monitorStep (s : State) : State := if s.load then uvAccumulate s else s

/-- `on_state(dc)` (R101). -/
def onState (dc : Word) (s : State) : State :=
  if countReached dc s.onCnt then { setLoad false s with dcnt := 0#32, duty := dutyOff } else { s with dcnt := dc }

/-- `off_state(dc)` (R102). -/
def offState (dc : Word) (s : State) : State :=
  if countReached dc s.offCnt then { setLoad true s with dcnt := 0#32, duty := dutyOn } else { s with dcnt := dc }

/-- `recover()`: an unrecognized DUTY becomes OFF (R103). -/
def recover (s : State) : State := setLoad false { s with duty := dutyOff, dcnt := 0#32 }

/-- One evaluation of the state machine (R99, R100). -/
def dutyEvaluate (s : State) : State :=
  if s.duty = dutyOn then onState (s.dcnt + 1#32) s
  else if s.duty = dutyOff then offState (s.dcnt + 1#32) s
  else recover s

/-- `duty_step()`: the state machine runs only in FullFeature and not latched (R99). -/
def dutyStep (s : State) : State := if dutyEnabled s then dutyEvaluate s else s

/-- One wake tick in RUN phase: the monitor completes before the state machine begins (R91, R92). -/
def wakeTick (s : State) : State := dutyStep (monitorStep s)

/-- `TICK` (R91). -/
def execTick (s : State) : Result := .next (inPhase .run wakeTick s)

end Sys2Proof.Machine
end

