-- ==== Sys2Proof/Machine/Dispatch.lean ====
section
/-! DEFINITION. One arm per command: its meaning. -/

namespace Sys2Proof.Machine

def exec (i : Instr) (s : State) : Host.Outcome State Fault Refusal :=
  match i with
  | .nop => Sys2Proof.Machine.execNop s
  | .reset => Sys2Proof.Machine.execReset s
  | .wrfac idx byte => Sys2Proof.Machine.execWrfac idx byte s
  | .wrmag byte => Sys2Proof.Machine.execWrmag byte s
  | .wron n => Sys2Proof.Machine.execWron n s
  | .wroff n => Sys2Proof.Machine.execWroff n s
  | .wrthr n => Sys2Proof.Machine.execWrthr n s
  | .wrmode m => Sys2Proof.Machine.execWrmode m s
  | .start => Sys2Proof.Machine.execStart s
  | .tick => Sys2Proof.Machine.execTick s

end Sys2Proof.Machine
end

