-- ==== Sys2Proof/Machine/Status.lean ====
section
/-! DEFINITION. The read-only status port (R31–R33, R140). -/

namespace Sys2Proof.Machine

/-- SDATA at the status address `a` (R31). -/
def State.statusData (s : State) (a : StatusAddr) : Word :=
  match a.toNat with
  | 0x0 => s.statusWord
  | 0x1 => s.dcnt
  | 0x2 => s.vcnt
  | 0x3 => s.onCnt
  | 0x4 => s.offCnt
  | 0x5 => s.thr
  | 0x6 => s.calF
  | 0x7 => zext32 s.rawOn
  | 0x8 => zext32 s.rawOff
  | 0x9 => zext32 s.rawThr
  | 0xA => s.imgFactor
  | 0xB => zextByte s.img4
  | _ => 0x00000000#32

/-- A status read between commands returns SDATA and changes no register (R33). -/
def readStatus (a : StatusAddr) (s : State) : State := { s with readData := some (s.statusData a) }

/-- The registers as a status read during a command may see them: those in `seen` as `new` has them, the others as `old`
has them (R140). -/
def mixRegisters (seen : List RegName) (old new : State) : State :=
  { old with
    phase := if .phase ∈ seen then new.phase else old.phase
    img0 := if .img0 ∈ seen then new.img0 else old.img0
    img1 := if .img1 ∈ seen then new.img1 else old.img1
    img2 := if .img2 ∈ seen then new.img2 else old.img2
    img3 := if .img3 ∈ seen then new.img3 else old.img3
    img4 := if .img4 ∈ seen then new.img4 else old.img4
    rawOn := if .rawOn ∈ seen then new.rawOn else old.rawOn
    rawOff := if .rawOff ∈ seen then new.rawOff else old.rawOff
    rawThr := if .rawThr ∈ seen then new.rawThr else old.rawThr
    mode := if .mode ∈ seen then new.mode else old.mode
    calF := if .calF ∈ seen then new.calF else old.calF
    calV := if .calV ∈ seen then new.calV else old.calV
    onCnt := if .onCnt ∈ seen then new.onCnt else old.onCnt
    offCnt := if .offCnt ∈ seen then new.offCnt else old.offCnt
    thr := if .thr ∈ seen then new.thr else old.thr
    duty := if .duty ∈ seen then new.duty else old.duty
    dcnt := if .dcnt ∈ seen then new.dcnt else old.dcnt
    vcnt := if .vcnt ∈ seen then new.vcnt else old.vcnt
    latch := if .latch ∈ seen then new.latch else old.latch
    load := if .load ∈ seen then new.load else old.load
    senseEn := if .senseEn ∈ seen then new.senseEn else old.senseEn }

/-- A status read that overlaps the command which takes `old` to `new`: the command has its whole effect, and the data is
what the registers in `seen` choose (R140). -/
def readStatusDuring (a : StatusAddr) (seen : List RegName) (old new : State) : State :=
  { new with readData := some ((mixRegisters seen old new).statusData a) }

end Sys2Proof.Machine
end

