-- ==== Sys2Proof/Machine/Port.lean ====
section
/-! DEFINITION. What one action of the outside world does to the block (R9, R40, R132, R138, R140). -/

namespace Sys2Proof.Machine

/-- The step of R10 on a command word: the decoded command runs, an ILLEGAL word is ignored (R112). -/
def execWord (w : Word) (s : State) : Result :=
  match decode w with
  | .command i => exec i s
  | .illegal why => ignoreIllegal why s

/-- Carry a change over an outcome. -/
def mapNext (f : State → State) : Result → Result
  | .next t => .next (f t)
  | .fault r => .fault r
  | .refused r => .refused r

/-- One event happens at the block's signals: an output takes its value, a reading is consumed (R14). -/
def playEvent (s : State) (e : Event) : State :=
  match e with
  | .loadOn => emit e { s with load := true }
  | .loadOff => emit e { s with load := false }
  | .senseOn => emit e { s with senseEn := true }
  | .senseOff => emit e { s with senseEn := false }
  | .read _ => emit e (consumeReading s)

/-- RST_N asserted after the first `n` events of a command that would take `s` to `t`: those events stand, nothing else of
the command survives, and every register is reset (R132). -/
def abortCommand (n : Nat) (s t : State) : State :=
  applyReset (((t.events.drop s.events.length).take n).foldl playEvent s)

/-- One action of the outside world. -/
def runInput (x : HostInput) (s : State) : Result :=
  match x with
  | .command w => execWord w s
  | .statusRead a => .next (readStatus a s)
  | .commandStatusRead w a seen => mapNext (readStatusDuring a seen s) (execWord w s)
  | .resetInput => .next (applyReset s)
  | .commandReset w n => mapNext (abortCommand n s) (execWord w s)
  | .powerOn => .next (applyReset s)

/-- A step begins with no event and no status data (R10). -/
def beginStep (s : State) : State := { s with events := [], readData := none }

/-- The next action of the outside world, taken once; with none listed the block holds its state (R10, R131, R138). -/
def runNextInput (s : State) : Result :=
  match s.host with
  | [] => .next (beginStep s)
  | x :: rest => runInput x { beginStep s with host := rest }

/-- The host's next action is to offer the word `w`. -/
def offerWord (w : Word) (s : State) : State := { s with host := .command w :: s.host }

end Sys2Proof.Machine
end

