-- ==== Sys2Proof/Machine/Step.lean ====
section
/-! DEFINITION. One step of the machine (R10), and how an instruction is placed where the next step takes it. -/

namespace Sys2Proof.Machine

/-- One step: the next action of the outside world takes effect, whole (R10, R52). -/
def step (s : State) : Host.Outcome State Fault Refusal := runNextInput s

/-- The host's next action is to offer the `nbits`-bit instruction `w`; nothing else changes. -/
def State.withFetchWord (s : State) (nbits w : Nat) : State := offerWord (tableWord nbits w) s

end Sys2Proof.Machine
end

