-- ==== Sys2Proof/Machine/Assembler.lean ====
section
/-! DEFINITION. The assembler notation of the spec: syntax (R65), pseudo-instructions (R66–R69), range errors (R71) and the
listing format (R72). It is a notation for words, no part of the block. -/

namespace Sys2Proof.Machine

/-- The feature-mode an operand in range stands for (R65): FULL is 1, PROT is 0. -/
def asmMode : AsmMode → FeatureMode
  | .full => .fullFeature
  | .prot => .protectionOnly
  | .number m => FeatureMode.ofBool (m == 1)

/-- The commands LDCAL stands for (R66). -/
def expandLdcal (f m : Nat) : List AsmLine :=
  [.wrfac 0 (f / 2 ^ 24 % 256), .wrfac 1 (f / 2 ^ 16 % 256), .wrfac 2 (f / 2 ^ 8 % 256), .wrfac 3 (f % 256), .wrmag m]

/-- The commands CONFIG stands for (R67). -/
def expandConfig (on off thr : Nat) (mode : AsmMode) : List AsmLine :=
  [.wron on, .wroff off, .wrthr thr, .wrmode mode]

/-- A line as lines without pseudo-instructions (R66–R69). -/
def expandLine : AsmLine → List AsmLine
  | .ldcal f m => expandLdcal f m
  | .config on off thr mode => expandConfig on off thr mode
  | .ticks n => List.replicate n .tick
  | .boot on off thr mode => .reset :: (expandConfig on off thr mode ++ [.start])
  | .bootCal on off thr mode f m => .reset :: (expandLdcal f m ++ (expandConfig on off thr mode ++ [.start]))
  | l => [l]

/-- The word of a line that is no pseudo-instruction, its operands in range (R70, R71). -/
def lineWord : AsmLine → Option Word
  | .nop => some (encode .nop)
  | .reset => some (encode .reset)
  | .wrfac idx byte => some (encode (.wrfac (BitVec.ofNat 2 idx) (BitVec.ofNat 8 byte)))
  | .wrmag byte => some (encode (.wrmag (BitVec.ofNat 8 byte)))
  | .wron n => some (encode (.wron (BitVec.ofNat 16 n)))
  | .wroff n => some (encode (.wroff (BitVec.ofNat 16 n)))
  | .wrthr n => some (encode (.wrthr (BitVec.ofNat 16 n)))
  | .wrmode m => some (encode (.wrmode (asmMode m)))
  | .start => some (encode .start)
  | .tick => some (encode .tick)
  | .word w => some (BitVec.ofNat 32 w)
  | _ => none

/-- The words a line assembles to; none, an assembly error, where an operand is out of range (R71). -/
def assemble (l : AsmLine) : Option (List Word) :=
  if l.wellFormed then (expandLine l).mapM lineWord else none

/-- The value of a digit in base 16 (capitals or small letters), if the character is one. -/
def digitValue (c : Char) : Option Nat :=
  if '0' ≤ c && c ≤ '9' then some (c.toNat - '0'.toNat)
  else if 'A' ≤ c && c ≤ 'F' then some (c.toNat - 'A'.toNat + 10)
  else if 'a' ≤ c && c ≤ 'f' then some (c.toNat - 'a'.toNat + 10)
  else none

/-- The number of a string of digits in base `base`, after the digits that make `acc`. -/
def digitsValue (base : Nat) : Nat → List Char → Option Nat
  | acc, [] => some acc
  | acc, c :: cs =>
    match digitValue c with
    | some d => if d < base then digitsValue base (base * acc + d) cs else none
    | none => none

/-- A number in decimal or, with a `0x` prefix, in hexadecimal (R65). -/
def parseNumber : List Char → Option Nat
  | [] => none
  | '0' :: 'x' :: c :: cs => digitsValue 16 0 (c :: cs)
  | cs => digitsValue 10 0 cs

/-- The mode operand (R65). -/
def parseMode (cs : List Char) : Option AsmMode :=
  if cs = "FULL".toList then some .full else if cs = "PROT".toList then some .prot else (parseNumber cs).map .number

/-- The text without blanks at its ends. -/
def trimBlanks (cs : List Char) : List Char := ((cs.dropWhile (· == ' ')).reverse.dropWhile (· == ' ')).reverse

/-- The pieces of a text between commas. -/
def splitCommas : List Char → List (List Char)
  | [] => [[]]
  | c :: cs =>
    match splitCommas cs with
    | [] => [[c]]
    | p :: ps => if c = ',' then [] :: p :: ps else (c :: p) :: ps

/-- A line from its mnemonic and its operand texts (R65–R69, R71). -/
def parseCommand (mnemonic : List Char) (ops : List (List Char)) : Option AsmLine :=
  let is (m : String) : Bool := mnemonic == m.toList
  match ops with
  | [] =>
    if is "NOP" then some .nop else if is "RESET" then some .reset else if is "START" then some .start
    else if is "TICK" then some .tick else none
  | [a] =>
    if is "WRMODE" then (parseMode a).map .wrmode
    else do
      let x ← parseNumber a
      if is "WRMAG" then some (.wrmag x) else if is "WRON" then some (.wron x) else if is "WROFF" then some (.wroff x)
      else if is "WRTHR" then some (.wrthr x) else if is "TICKS" then some (.ticks x)
      else if is ".word" then some (.word x) else none
  | [a, b] => do
    let x ← parseNumber a
    let y ← parseNumber b
    if is "WRFAC" then some (.wrfac x y) else if is "LDCAL" then some (.ldcal x y) else none
  | [a, b, c, m] => do
    let x ← parseNumber a
    let y ← parseNumber b
    let z ← parseNumber c
    let mode ← parseMode m
    if is "CONFIG" then some (.config x y z mode) else if is "BOOT" then some (.boot x y z mode) else none
  | [a, b, c, m, f, g] => do
    let x ← parseNumber a
    let y ← parseNumber b
    let z ← parseNumber c
    let mode ← parseMode m
    let v ← parseNumber f
    let w ← parseNumber g
    if is "BOOT" then some (.bootCal x y z mode v w) else none
  | _ => none

/-- One line of source, its comment from `;` on left out: `some none` for a line with no command, `none` for an error. -/
def parseLine (cs : List Char) : Option (Option AsmLine) :=
  match trimBlanks (cs.takeWhile (· != ';')) with
  | [] => some none
  | code =>
    let rest := trimBlanks (code.dropWhile (· != ' '))
    (parseCommand (code.takeWhile (· != ' ')) (if rest = [] then [] else (splitCommas rest).map trimBlanks)).map some

/-- The digit character of `d` below 16, in capitals. -/
def hexDigit (d : Nat) : Char := if d < 10 then Char.ofNat (48 + d) else Char.ofNat (55 + d)

/-- `v` in `k` hex digits, most significant first (R11). -/
def hexDigits : Nat → Nat → List Char
  | 0, _ => []
  | k + 1, v => hexDigit (v / 16 ^ k % 16) :: hexDigits k v

/-- A mode operand as text (R65). -/
def modeText : AsmMode → String
  | .full => "FULL"
  | .prot => "PROT"
  | .number m => if m = 1 then "FULL" else "PROT"

/-- A byte as text, `0x` and two hex digits. -/
def byteText (b : Nat) : String := "0x" ++ String.ofList (hexDigits 2 b)

/-- The assembly text of a line that is no pseudo-instruction (R65). -/
def lineText : AsmLine → String
  | .nop => "NOP"
  | .reset => "RESET"
  | .wrfac idx byte => "WRFAC " ++ toString idx ++ ", " ++ byteText byte
  | .wrmag byte => "WRMAG " ++ byteText byte
  | .wron n => "WRON " ++ toString n
  | .wroff n => "WROFF " ++ toString n
  | .wrthr n => "WRTHR " ++ toString n
  | .wrmode m => "WRMODE " ++ modeText m
  | .start => "START"
  | .tick => "TICK"
  | .word w => ".word 0x" ++ String.ofList (hexDigits 8 w)
  | _ => ""

/-- One listing line of a line that is no pseudo-instruction (R72). -/
def listOne (l : AsmLine) : Option String :=
  (lineWord l).map fun w => String.ofList (hexDigits 8 w.toNat) ++ "  " ++ lineText l

/-- The listing of a line: pseudo-instructions expanded, except TICKS (R72); none where an operand is out of range. -/
def listing (l : AsmLine) : Option (List String) :=
  if l.wellFormed then
    match l with
    | .ticks n => some ["90000000 × " ++ toString n ++ "  TICKS " ++ toString n]
    | _ => (expandLine l).mapM listOne
  else none

end Sys2Proof.Machine
end

