-- ==== Sys2Proof/Safety.lean ====
section
/-! DEFINITION. The terms the statements use: the invariant of the reachable states (R29, R34–R39, R88, R106), reachability
(R34, R144), runs of commands, and closed forms of a sampling window and of a TICK, written without the model's loop. -/

namespace Sys2Proof.Safety

open Sys2Proof.Machine

/-- Every register holds its reset value (R17, R132). -/
def RegistersReset (t : State) : Prop :=
  t.phase = .cfg ∧ t.img0 = 0x00#8 ∧ t.img1 = 0x00#8 ∧ t.img2 = 0x00#8 ∧ t.img3 = 0x00#8 ∧ t.img4 = 0x00#8 ∧
  t.rawOn = 0#16 ∧ t.rawOff = 0#16 ∧ t.rawThr = 0#16 ∧ t.mode = .protectionOnly ∧
  t.calF = 0#32 ∧ t.calV = false ∧ t.onCnt = 0#32 ∧ t.offCnt = 0#32 ∧ t.thr = 0#32 ∧
  t.duty = dutyOn ∧ t.dcnt = 0#32 ∧ t.vcnt = 0#32 ∧ t.latch = false ∧ t.load = true ∧ t.senseEn = false

/-- Two states hold the same value in every register of R17. -/
def SameRegisters (s t : State) : Prop :=
  t.phase = s.phase ∧ t.img0 = s.img0 ∧ t.img1 = s.img1 ∧ t.img2 = s.img2 ∧ t.img3 = s.img3 ∧ t.img4 = s.img4 ∧
  t.rawOn = s.rawOn ∧ t.rawOff = s.rawOff ∧ t.rawThr = s.rawThr ∧ t.mode = s.mode ∧
  t.calF = s.calF ∧ t.calV = s.calV ∧ t.onCnt = s.onCnt ∧ t.offCnt = s.offCnt ∧ t.thr = s.thr ∧
  t.duty = s.duty ∧ t.dcnt = s.dcnt ∧ t.vcnt = s.vcnt ∧ t.latch = s.latch ∧ t.load = s.load ∧ t.senseEn = s.senseEn

/-- The registers that only CFG-phase commands and START write hold the same values (R88). -/
def SameConfiguration (s t : State) : Prop :=
  t.rawOn = s.rawOn ∧ t.rawOff = s.rawOff ∧ t.rawThr = s.rawThr ∧ t.mode = s.mode ∧
  t.img0 = s.img0 ∧ t.img1 = s.img1 ∧ t.img2 = s.img2 ∧ t.img3 = s.img3 ∧ t.img4 = s.img4 ∧
  t.calF = s.calF ∧ t.calV = s.calV ∧ t.onCnt = s.onCnt ∧ t.offCnt = s.offCnt ∧ t.thr = s.thr

/-- What CFG phase holds (R39). -/
structure CfgQuiet (s : State) : Prop where
  duty : s.duty = dutyOn
  load : s.load = true
  latch : s.latch = false
  dcnt : s.dcnt = 0#32
  vcnt : s.vcnt = 0#32
  senseEn : s.senseEn = false
  calF : s.calF = 0#32
  calV : s.calV = false
  onCnt : s.onCnt = 0#32
  offCnt : s.offCnt = 0#32
  thr : s.thr = 0#32

/-- The active configuration is the one START computes from the image and the raw registers (R78, R87, R88). -/
structure Committed (s : State) : Prop where
  calF : s.calF = s.imgFactor
  calV : s.calV = magicMatches s
  onCnt : s.onCnt = calibrate s.params s.calV s.calF s.rawOn
  offCnt : s.offCnt = calibrate s.params s.calV s.calF s.rawOff
  thr : s.thr = calibrate s.params s.calV s.calF s.rawThr

/-- The invariant of the machine. -/
structure MachineInv (s : State) : Prop where
  /-- R8 -/
  params : s.params.Legal
  /-- R29 -/
  senseOff : s.senseEn = false
  /-- R34(c) -/
  dutyRecognized : s.duty = dutyOn ∨ s.duty = dutyOff
  /-- R35 -/
  loadMirrors : s.load = true ↔ s.duty = dutyOn ∧ s.latch = false
  /-- R37 -/
  dcntOn : s.duty = dutyOn → s.dcnt.toNat < max s.onCnt.toNat 1
  /-- R37 -/
  dcntOff : s.duty = dutyOff → s.dcnt.toNat < max s.offCnt.toNat 1
  /-- R37 -/
  vcntBelow : s.vcnt.toNat < max Config.uvInterval 1
  /-- R39 -/
  cfgQuiet : s.phase = .cfg → CfgQuiet s
  /-- R88 -/
  committed : s.phase = .run → Committed s
  /-- R106 -/
  protectionOnly : s.mode = .protectionOnly → s.duty = dutyOn ∧ s.dcnt = 0#32

/-- The states reached from reset, whatever the parameters R8 allows, the outside world and the sense environment do. -/
inductive Reachable : State → Prop where
  | reset (p : Option Params) (legal : (p.getD Config.params).Legal) (host : List HostInput) (sense : List Reading) (draws : Nat) :
      Reachable { State.reset with openParams := p, host := host, sense := sense, senseDraws := draws }
  | step (s t : State) : Reachable s → Machine.step s = .next t → Reachable t

/-- The commands of `is` one after the other, each with its whole effect before the next (R52). -/
def runCommands : List Instr → State → Result
  | [], s => .next s
  | i :: is, s =>
    match exec i s with
    | .next t => runCommands is t
    | .fault r => .fault r
    | .refused r => .refused r

/-- LOAD after the events `es`, from the value `load` before them (R14). -/
def loadAfter (load : Bool) : List Event → Bool
  | [] => load
  | .loadOn :: es => loadAfter true es
  | .loadOff :: es => loadAfter false es
  | .senseOn :: es => loadAfter load es
  | .senseOff :: es => loadAfter load es
  | .read _ :: es => loadAfter load es

/-- SENSE_EN after the events `es`, from the value `senseEn` before them (R14). -/
def senseEnAfter (senseEn : Bool) : List Event → Bool
  | [] => senseEn
  | .senseOn :: es => senseEnAfter true es
  | .senseOff :: es => senseEnAfter false es
  | .loadOn :: es => senseEnAfter senseEn es
  | .loadOff :: es => senseEnAfter senseEn es
  | .read _ :: es => senseEnAfter senseEn es

/-- `n` TICK commands (R68). -/
def ticks (n : Nat) : List Instr := List.replicate n .tick

/-- The register a CFG-phase write command writes (R17, R113); none for the other commands. -/
def writeTarget : Instr → Option RegName
  | .wrfac idx _ =>
      if idx = 0#2 then some .img0 else if idx = 1#2 then some .img1 else if idx = 2#2 then some .img2 else some .img3
  | .wrmag _ => some .img4
  | .wron _ => some .rawOn
  | .wroff _ => some .rawOff
  | .wrthr _ => some .rawThr
  | .wrmode _ => some .mode
  | .nop => none
  | .reset => none
  | .start => none
  | .tick => none

/-- The commands of `is` that write register `r`, in order. -/
def writesOf (r : RegName) (is : List Instr) : List Instr := is.filter (fun i => writeTarget i == some r)

/-- This TICK is a measurement boundary, if the monitor runs (R94). -/
abbrev Boundary (s : State) : Prop := Config.uvInterval ≤ (s.vcnt.toNat + 1) % 2 ^ 32

/-- The sum of the readings the sense environment supplies next. -/
def readingSum (s : State) : Nat := ((upcoming Config.sampleCount s).map BitVec.toNat).sum

/-- The floor of their mean (R96). -/
def readingMean (s : State) : Nat := readingSum s / Config.sampleCount

/-- The events of one sampling window (R95, R108). -/
def windowEvents (s : State) : List Event :=
  .senseOn :: ((upcoming Config.sampleCount s).map Event.read ++ [.senseOff])

/-- The state after a sampling window whose sample does not trip: VCNT restarts, the readings are consumed, the window's
events are out, nothing else changes (R94, R95). -/
def afterWindow (s : State) : State :=
  { s with
    vcnt := 0#32
    senseEn := false
    sense := s.sense.drop Config.sampleCount
    senseDraws := s.senseDraws + (Config.sampleCount - s.sense.length)
    events := s.events ++ windowEvents s }

/-- The monitor's part of a TICK (R93–R98). -/
def monitorOutcome (s : State) : State :=
  if s.load = false then s
  else if ¬ Boundary s then { s with vcnt := s.vcnt + 1#32 }
  else if readingMean s < s.thr.toNat then
    { afterWindow s with load := false, latch := true, events := s.events ++ windowEvents s ++ [.loadOff] }
  else afterWindow s

/-- The state machine's part of a TICK (R99–R103). -/
def dutyOutcome (s : State) : State :=
  if s.mode = .protectionOnly ∨ s.latch = true then s
  else if s.duty = dutyOn then
    if s.onCnt.toNat ≤ (s.dcnt.toNat + 1) % 2 ^ 32 then
      { s with duty := dutyOff, dcnt := 0#32, load := false, events := s.events ++ if s.load then [.loadOff] else [] }
    else { s with dcnt := s.dcnt + 1#32 }
  else if s.duty = dutyOff then
    if s.offCnt.toNat ≤ (s.dcnt.toNat + 1) % 2 ^ 32 then
      { s with duty := dutyOn, dcnt := 0#32, load := true, events := s.events ++ if s.load then [] else [.loadOn] }
    else { s with dcnt := s.dcnt + 1#32 }
  else { s with duty := dutyOff, dcnt := 0#32, load := false, events := s.events ++ if s.load then [.loadOff] else [] }

end Sys2Proof.Safety
end

