-- ==== Sys2Proof/Certificates/Slice0/Obligations.lean ====
section
/-! DEFINITION. The statements for the provers, each from a numbered rule of spec/ or derived from its sections. -/

open Sys2Proof Sys2Proof.Machine Sys2Proof.Safety

/-! ### Encoding -/

/-- The spec's own inference R70: the encodings of all ten commands, and decoding inverts encoding on every command. -/
def Obligations.EncodeTableAndDecodeInvertsEncode : Prop :=
  encode .nop = 0x00000000#32 ∧ encode .reset = 0x10000000#32 ∧
  (∀ i b, encode (.wrfac i b) = 0x20000000#32 ||| (i.setWidth 32 <<< 24) ||| b.setWidth 32) ∧
  (∀ b, encode (.wrmag b) = 0x30000000#32 ||| b.setWidth 32) ∧
  (∀ d, encode (.wron d) = 0x40000000#32 ||| d.setWidth 32) ∧
  (∀ d, encode (.wroff d) = 0x50000000#32 ||| d.setWidth 32) ∧
  (∀ d, encode (.wrthr d) = 0x60000000#32 ||| d.setWidth 32) ∧
  encode (.wrmode .protectionOnly) = 0x70000000#32 ∧ encode (.wrmode .fullFeature) = 0x70000001#32 ∧
  encode .start = 0x80000000#32 ∧ encode .tick = 0x90000000#32 ∧
  encode (.wron 7031#16) = 0x40001B77#32 ∧
  ∀ i, decode (encode i) = .command i

/-- A word that decodes to a command is the command's own encoding: every legal word is unique (30_encoding, section 2).
-/
def Obligations.DecodeAcceptsOnlyEncodedWords : Prop :=
  ∀ w i, decode w = .command i → encode i = w

/-- R59: the opcode table; at most one row matches a word; a word encodes a command exactly when a row matches, and the
command is that row's. -/
def Obligations.DecodeFollowsDisjointOpcodeTable : Prop :=
  opcodeTable.map (fun r => (r.mnemonic, r.matchBits, r.mask)) =
    [("NOP", 0x00000000#32, 0xFFFFFFFF#32), ("RESET", 0x10000000#32, 0xFFFFFFFF#32),
     ("WRFAC", 0x20000000#32, 0xFCFFFF00#32), ("WRMAG", 0x30000000#32, 0xFFFFFF00#32),
     ("WRON", 0x40000000#32, 0xFFFF0000#32), ("WROFF", 0x50000000#32, 0xFFFF0000#32),
     ("WRTHR", 0x60000000#32, 0xFFFF0000#32), ("WRMODE", 0x70000000#32, 0xFFFFFFFE#32),
     ("START", 0x80000000#32, 0xFFFFFFFF#32), ("TICK", 0x90000000#32, 0xFFFFFFFF#32)] ∧
  (∀ w, ∀ r ∈ opcodeTable, ∀ q ∈ opcodeTable,
    w &&& r.mask = r.matchBits → w &&& q.mask = q.matchBits → r.mnemonic = q.mnemonic) ∧
  (∀ w, (∃ i, decode w = .command i) ↔ ∃ r ∈ opcodeTable, w &&& r.mask = r.matchBits) ∧
  (∀ w i, decode w = .command i → ∃ r, opcodeTable[i.rowIndex.val]? = some r ∧ w &&& r.mask = r.matchBits)

/-- R60: each operand is its field of the word, zero-extended, neither scaled nor shifted. -/
def Obligations.OperandsAreTheirWordFields : Prop :=
  (∀ w idx b, decode w = .command (.wrfac idx b) →
    idx.toNat = w.toNat / 2 ^ 24 % 4 ∧ b.toNat = w.toNat % 256) ∧
  (∀ w b, decode w = .command (.wrmag b) → b.toNat = w.toNat % 256) ∧
  (∀ w d, decode w = .command (.wron d) → d.toNat = w.toNat % 65536) ∧
  (∀ w d, decode w = .command (.wroff d) → d.toNat = w.toNat % 65536) ∧
  (∀ w d, decode w = .command (.wrthr d) → d.toNat = w.toNat % 65536) ∧
  (∀ w m, decode w = .command (.wrmode m) → (m = .fullFeature ↔ w.toNat % 2 = 1))

/-- R62: the words that are ILLEGAL, field by field, are exactly those the rule lists; an ILLEGAL word changes nothing. -/
def Obligations.IllegalWordsAreExactlyTheListedOnes : Prop :=
  (∀ w : Word, (∃ why, decode w = .illegal why) ↔
    10 ≤ w.toNat / 2 ^ 28 ∨
    w.toNat / 2 ^ 16 % 256 ≠ 0 ∨
    (w.toNat / 2 ^ 24 % 16 ≠ 0 ∧ ¬ (w.toNat / 2 ^ 28 = 2 ∧ w.toNat / 2 ^ 24 % 16 < 4)) ∨
    ((w.toNat / 2 ^ 28 = 2 ∨ w.toNat / 2 ^ 28 = 3) ∧ w.toNat % 2 ^ 16 / 2 ^ 8 ≠ 0) ∨
    (w.toNat / 2 ^ 28 = 7 ∧ w.toNat % 2 ^ 16 / 2 ≠ 0) ∨
    ((w.toNat / 2 ^ 28 = 0 ∨ w.toNat / 2 ^ 28 = 1 ∨ w.toNat / 2 ^ 28 = 8 ∨ w.toNat / 2 ^ 28 = 9) ∧
      w.toNat % 2 ^ 28 ≠ 0)) ∧
  (∀ w why s, decode w = .illegal why → execWord w s = .next s) ∧
  (∃ why, decode 0x40010000#32 = .illegal why) ∧ (∃ why, decode 0xA0000000#32 = .illegal why)

/-- Words written out from the encoding table decode to their commands (95_test_vectors 2.1). -/
def Obligations.WrittenOutWordsDecode : Prop :=
  decode 0x220000C2#32 = .command (.wrfac 2#2 0xC2#8) ∧ decode 0x300000A5#32 = .command (.wrmag 0xA5#8) ∧
  decode 0x40001B77#32 = .command (.wron 7031#16) ∧ decode 0x50000DBC#32 = .command (.wroff 3516#16) ∧
  decode 0x600002D1#32 = .command (.wrthr 721#16) ∧ decode 0x70000001#32 = .command (.wrmode .fullFeature) ∧
  decode 0x90000000#32 = .command .tick

/-- R71: an operand out of range, of a command or of a pseudo-instruction's expansion, assembles to no word; a command's
operand in range is carried whole; a raw word assembles to itself. -/
def Obligations.AssemblerRejectsOperandsOutOfRange : Prop :=
  (∀ idx byte, 3 < idx ∨ 255 < byte → assemble (.wrfac idx byte) = none) ∧
  (∀ byte, 255 < byte → assemble (.wrmag byte) = none) ∧
  (∀ n, 65535 < n → assemble (.wron n) = none ∧ assemble (.wroff n) = none ∧ assemble (.wrthr n) = none) ∧
  (∀ m, 1 < m → assemble (.wrmode (.number m)) = none) ∧
  (∀ on off thr mode, 65535 < on ∨ 65535 < off ∨ 65535 < thr ∨ (∃ m, mode = .number m ∧ 1 < m) →
    assemble (.config on off thr mode) = none ∧ assemble (.boot on off thr mode) = none ∧
    ∀ f byte, assemble (.bootCal on off thr mode f byte) = none) ∧
  (∀ f byte, 255 < byte → assemble (.ldcal f byte) = none ∧
    ∀ on off thr mode, assemble (.bootCal on off thr mode f byte) = none) ∧
  (∀ idx byte, idx ≤ 3 → byte ≤ 255 →
    ∃ w, assemble (.wrfac idx byte) = some [w] ∧ w.toNat = 0x20000000 + idx * 2 ^ 24 + byte) ∧
  (∀ byte, byte ≤ 255 → ∃ w, assemble (.wrmag byte) = some [w] ∧ w.toNat = 0x30000000 + byte) ∧
  (∀ n, n ≤ 65535 →
    (∃ w, assemble (.wron n) = some [w] ∧ w.toNat = 0x40000000 + n) ∧
    (∃ w, assemble (.wroff n) = some [w] ∧ w.toNat = 0x50000000 + n) ∧
    ∃ w, assemble (.wrthr n) = some [w] ∧ w.toNat = 0x60000000 + n) ∧
  (∀ m, m ≤ 1 → ∃ w, assemble (.wrmode (.number m)) = some [w] ∧ w.toNat = 0x70000000 + m) ∧
  assemble (.wrmode .full) = some [0x70000001#32] ∧ assemble (.wrmode .prot) = some [0x70000000#32] ∧
  (∀ w : Word, assemble (.word w.toNat) = some [w])

/-- R66 to R69: the pseudo-instructions expand to their commands, in order. -/
def Obligations.PseudoInstructionsExpand : Prop :=
  let ldcal (f : Word) (m : Byte) : List Instr :=
    [.wrfac 0#2 (f.extractLsb' 24 8), .wrfac 1#2 (f.extractLsb' 16 8), .wrfac 2#2 (f.extractLsb' 8 8),
      .wrfac 3#2 (f.extractLsb' 0 8), .wrmag m]
  let config (on off thr : Half) (mode : FeatureMode) : List Instr :=
    [.wron on, .wroff off, .wrthr thr, .wrmode mode]
  let asm (mode : FeatureMode) : AsmMode := if mode = .fullFeature then .full else .prot
  (∀ f m, assemble (.ldcal f.toNat m.toNat) = some ((ldcal f m).map encode)) ∧
  (∀ on off thr mode, assemble (.config on.toNat off.toNat thr.toNat (asm mode)) =
    some ((config on off thr mode).map encode)) ∧
  (∀ n, assemble (.ticks n) = some (List.replicate n (encode .tick))) ∧
  (∀ on off thr mode, assemble (.boot on.toNat off.toNat thr.toNat (asm mode)) =
    some ((.reset :: (config on off thr mode ++ [.start])).map encode)) ∧
  (∀ on off thr mode f m, assemble (.bootCal on.toNat off.toNat thr.toNat (asm mode) f.toNat m.toNat) =
    some ((.reset :: (ldcal f m ++ config on off thr mode ++ [.start])).map encode))

/-! ### Steps and the ports -/

/-- A step runs the command the host offers (00_scope R10): from a state that begins the step with no event and no status
data, and whose host has that offer behind it. A word placed by `withFetchWord` is the next step's. The list of the host's
actions, the clearing of the events and of the status data, and where `withFetchWord` puts the offer are the model's choice
(assumption log 3). -/
def Obligations.StepRunsTheOfferedCommand : Prop :=
  (∀ s w rest i, s.host = .command w :: rest → decode w = .command i →
    step s = exec i { s with host := rest, events := [], readData := none }) ∧
  (∀ (s : State) i, step (s.withFetchWord 32 (encode i).toNat) = exec i { s with events := [], readData := none })

/-- R112: an ILLEGAL word is ignored: no register changes, no event is emitted, nothing stops. -/
def Obligations.StepIgnoresAnIllegalWord : Prop :=
  (∀ s w rest why, s.host = .command w :: rest → decode w = .illegal why →
    step s = .next { s with host := rest, events := [], readData := none }) ∧
  (∃ why, decode 0xA0000000#32 = .illegal why) ∧ (∃ why, decode 0x40010000#32 = .illegal why)

/-- R116: no command, operand value or state makes a step fail. -/
def Obligations.EveryStepCompletesWithANextState : Prop :=
  (∀ s, ∃ t, step s = .next t) ∧ (∀ i s, ∃ t, exec i s = .next t) ∧ (∀ w s, ∃ t, execWord w s = .next t) ∧
  (Fault → False)

/-- With nothing offered the block holds its state (60_exceptions R131; the step that idles is the model's, assumption log
3). -/
def Obligations.IdleStepHoldsTheState : Prop :=
  ∀ s, s.host = [] → step s = .next { s with events := [], readData := none }

/-- A step takes exactly one action of the outside world and never writes the parameters (70_reset_and_hazards R138; the
list of actions is the model's, assumption log 3). -/
def Obligations.StepTakesOneInputAndKeepsParameters : Prop :=
  ∀ s t, step s = .next t → t.host = s.host.tail ∧ t.openParams = s.openParams

/-- R33: a status read changes no register and emits no event, and a second read returns the same value. -/
def Obligations.StatusReadHasNoSideEffect : Prop :=
  (∀ s a rest, s.host = .statusRead a :: rest →
    step s = .next { s with host := rest, events := [], readData := some (s.statusData a) }) ∧
  (∀ s a rest, s.host = .statusRead a :: .statusRead a :: rest →
    ∃ t u, step s = .next t ∧ step t = .next u ∧ u.readData = t.readData ∧ SameRegisters s t ∧ SameRegisters s u)

/-- R31, R32: what each status location reads, the STATUS word bit by bit, and no location writes a register. -/
def Obligations.StatusPortFollowsItsMap : Prop :=
  (∀ s : State,
    (s.statusData 0x0#4).toNat =
      s.load.toNat + 2 * s.latch.toNat + 4 * s.duty.toNat + 16 * (if s.phase = .run then 1 else 0) +
        32 * (if s.mode = .fullFeature then 1 else 0) + 64 * s.calV.toNat + 128 * s.senseEn.toNat ∧
    s.statusData 0x1#4 = s.dcnt ∧ s.statusData 0x2#4 = s.vcnt ∧ s.statusData 0x3#4 = s.onCnt ∧
    s.statusData 0x4#4 = s.offCnt ∧ s.statusData 0x5#4 = s.thr ∧ s.statusData 0x6#4 = s.calF ∧
    (s.statusData 0x7#4).toNat = s.rawOn.toNat ∧ (s.statusData 0x8#4).toNat = s.rawOff.toNat ∧
    (s.statusData 0x9#4).toNat = s.rawThr.toNat ∧
    s.statusData 0xA#4 = s.img0 ++ s.img1 ++ s.img2 ++ s.img3 ∧
    (s.statusData 0xB#4).toNat = s.img4.toNat ∧
    (∀ a : StatusAddr, 12 ≤ a.toNat → s.statusData a = 0#32) ∧
    (∀ a, SameRegisters s (readStatus a s))) ∧
  State.reset.statusData 0x0#4 = 0x00000005#32

/-- A status read during a command (70_reset_and_hazards R140): the command has its whole effect; a location of one register
shows its value before or after it; in STATUS every one-bit register and the two bits of DUTY together, and in IMGF each of
the four bytes, show their value before or after it. One read in a command is the model's choice (assumption log 4). -/
def Obligations.StatusReadDuringCommandIsOldOrNew : Prop :=
  ∀ s w a seen rest t, s.host = .commandStatusRead w a seen :: rest →
    execWord w { s with host := rest, events := [], readData := none } = .next t →
    ∃ d, step s = .next { t with readData := some d } ∧
      (∀ k, d.getLsbD k = (s.statusData a).getLsbD k ∨ d.getLsbD k = (t.statusData a).getLsbD k) ∧
      (a ≠ 0x0#4 → a ≠ 0xA#4 → d = s.statusData a ∨ d = t.statusData a) ∧
      (a = 0x0#4 → d.extractLsb' 2 2 = s.duty ∨ d.extractLsb' 2 2 = t.duty) ∧
      (a = 0xA#4 →
        (d.extractLsb' 24 8 = s.img0 ∨ d.extractLsb' 24 8 = t.img0) ∧
        (d.extractLsb' 16 8 = s.img1 ∨ d.extractLsb' 16 8 = t.img1) ∧
        (d.extractLsb' 8 8 = s.img2 ∨ d.extractLsb' 8 8 = t.img2) ∧
        (d.extractLsb' 0 8 = s.img3 ∨ d.extractLsb' 0 8 = t.img3)) ∧
      (seen = [] → d = s.statusData a)

/-! ### NOP and reset -/

/-- R110: NOP is the word 0 and leaves everything unchanged, in both phases. -/
def Obligations.NopChangesNothing : Prop :=
  decode 0x00000000#32 = .command .nop ∧ ∀ s, exec .nop s = .next s

/-- R111: RESET gives the reset state in every phase, with LOAD_ON where LOAD was 0 and no other event (SENSE_EN is 0
between commands, R29); it has exactly the effect of the reset input, and it is the only command that clears LATCH (in CFG
phase LATCH is 0, R39). -/
def Obligations.ResetCommandRestoresTheResetState : Prop :=
  decode 0x10000000#32 = .command .reset ∧
  (∀ s, runInput .resetInput s = exec .reset s) ∧
  (∀ i s t, (s.phase = .cfg → s.latch = false) → s.latch = true → exec i s = .next t → t.latch = false → i = .reset) ∧
  ∀ s, s.senseEn = false →
    exec .reset s = .next { State.reset with
      openParams := s.openParams, host := s.host, sense := s.sense, senseDraws := s.senseDraws, readData := s.readData,
      events := s.events ++ if s.load then [] else [.loadOn] } ∧
    ∀ t, exec .reset s = .next t → t.statusWord = 0x00000005#32

/-- R132: the reset input, power and the RESET command each put every register at its reset value, in every phase and
state, and so does the reset input during a command: none of the command's effects survive. -/
def Obligations.EveryResetSourceRestoresEveryRegister : Prop :=
  RegistersReset State.reset ∧
  ∀ s x rest, s.host = x :: rest →
    (x = .resetInput ∨ x = .powerOn ∨ x = .command 0x10000000#32 ∨ ∃ w n, x = .commandReset w n) →
    ∃ t, step s = .next t ∧ RegistersReset t ∧ t.host = rest

/-- The reset input during a command (93_implementation_defined): a prefix of the command's events stands; then LOAD_ON
follows exactly when LOAD is 0 after that prefix, and SENSE_OFF exactly when SENSE_EN is 1 after it (the events of the reset
are the model's choice, assumption log 6; which prefix is the input's, assumption log 5). -/
def Obligations.AbortedCommandLeavesAPrefixOfItsEvents : Prop :=
  ∀ s w n rest t, s.host = .commandReset w n :: rest →
    execWord w { s with host := rest, events := [], readData := none } = .next t →
    ∃ u, step s = .next u ∧ RegistersReset u ∧
      u.events = t.events.take n ++
        ((if loadAfter s.load (t.events.take n) then [] else [.loadOn]) ++
          if senseEnAfter s.senseEn (t.events.take n) then [.senseOff] else [])

/-- The model's choice for states no run reaches (assumption log 6): a reset with SENSE_EN = 1 emits SENSE_OFF after
LOAD's event, and START in a CFG state with LOAD = 0 emits LOAD_ON. -/
def Obligations.OutputChangesOutsideReachableStatesEmitEvents : Prop :=
  (∀ s, s.senseEn = true → ∃ t, exec .reset s = .next t ∧ RegistersReset t ∧
    t.events = s.events ++ ((if s.load then [] else [.loadOn]) ++ [.senseOff])) ∧
  (∀ s, s.phase = .cfg → s.load = false → ∃ t, exec .start s = .next t ∧ t.phase = .run ∧ t.load = true ∧
    t.events = s.events ++ [.loadOn])

/-! ### Calibration and configuration -/

/-- R79: WRFAC writes the factor byte of its index in CFG phase and is ignored in RUN phase; its words; a byte index of 4
or more has none. -/
def Obligations.WrfacWritesOneFactorByte : Prop :=
  (∀ s b, s.phase = .cfg →
    exec (.wrfac 0#2 b) s = .next { s with img0 := b } ∧ exec (.wrfac 1#2 b) s = .next { s with img1 := b } ∧
    exec (.wrfac 2#2 b) s = .next { s with img2 := b } ∧ exec (.wrfac 3#2 b) s = .next { s with img3 := b }) ∧
  (∀ s i b, s.phase = .run → exec (.wrfac i b) s = .next s) ∧
  (∀ s i b t, exec (.wrfac i b) s = .next t → exec (.wrfac i b) t = .next t) ∧
  (∀ (i : BitVec 2) (b : Byte), decode (0x20000000#32 ||| (i.setWidth 32 <<< 24) ||| b.setWidth 32) = .command (.wrfac i b)) ∧
  (∀ w : Word, w.toNat / 2 ^ 28 = 2 → 4 ≤ w.toNat / 2 ^ 24 % 16 → ∃ why, decode w = .illegal why) ∧
  decode 0x220000C2#32 = .command (.wrfac 2#2 0xC2#8)

/-- R80: WRMAG writes the magic byte in CFG phase, leaves CAL_V alone, and is ignored in RUN phase. -/
def Obligations.WrmagWritesTheMagicByte : Prop :=
  (∀ s b, s.phase = .cfg → exec (.wrmag b) s = .next { s with img4 := b }) ∧
  (∀ s b, s.phase = .run → exec (.wrmag b) s = .next s) ∧
  (∀ s b t, exec (.wrmag b) s = .next t → exec (.wrmag b) t = .next t ∧ t.calV = s.calV) ∧
  (∀ b : Byte, decode (0x30000000#32 ||| b.setWidth 32) = .command (.wrmag b)) ∧
  decode 0x300000A5#32 = .command (.wrmag 0xA5#8)

/-- WRON, WROFF and WRTHR write their raw register in CFG phase and nothing else, the last write wins, and they are
ignored in RUN phase (41_configuration, section 1). -/
def Obligations.RawConfigurationWrites : Prop :=
  (∀ s n, s.phase = .cfg →
    exec (.wron n) s = .next { s with rawOn := n } ∧ exec (.wroff n) s = .next { s with rawOff := n } ∧
    exec (.wrthr n) s = .next { s with rawThr := n }) ∧
  (∀ s n, s.phase = .run →
    exec (.wron n) s = .next s ∧ exec (.wroff n) s = .next s ∧ exec (.wrthr n) s = .next s) ∧
  (∀ s n m, runCommands [.wron n, .wron m] s = exec (.wron m) s ∧
    runCommands [.wroff n, .wroff m] s = exec (.wroff m) s ∧ runCommands [.wrthr n, .wrthr m] s = exec (.wrthr m) s) ∧
  (∀ n : Half, decode (0x40000000#32 ||| n.setWidth 32) = .command (.wron n) ∧
    decode (0x50000000#32 ||| n.setWidth 32) = .command (.wroff n) ∧
    decode (0x60000000#32 ||| n.setWidth 32) = .command (.wrthr n))

/-- R86: WRMODE writes MODE in CFG phase and is ignored in RUN phase; MODE is ProtectionOnly after reset, and stays so
without a WRMODE: no command but WRMODE and RESET changes it, and START does not calibrate it. -/
def Obligations.WrmodeWritesFeatureMode : Prop :=
  (∀ s m, s.phase = .cfg → exec (.wrmode m) s = .next { s with mode := m }) ∧
  (∀ s m, s.phase = .run → exec (.wrmode m) s = .next s) ∧
  (∀ s t, exec .reset s = .next t → t.mode = .protectionOnly) ∧
  (∀ s t, exec .start s = .next t → t.mode = s.mode) ∧
  (∀ i s t, i ≠ .reset → (∀ m, i ≠ .wrmode m) → exec i s = .next t → t.mode = s.mode) ∧
  (∀ is s t, (∀ m, .wrmode m ∉ is) → runCommands (.reset :: is) s = .next t → t.mode = .protectionOnly) ∧
  decode 0x70000001#32 = .command (.wrmode .fullFeature) ∧ decode 0x70000000#32 = .command (.wrmode .protectionOnly)

/-- R43, R44, R78: START forms CAL_F big-endian from the image, whatever the magic byte; status location 0xA shows the
same word; CAL_V says whether byte 4 is the marker. -/
def Obligations.StartLoadsTheFactorBigEndian : Prop :=
  (∀ s, s.phase = .cfg → ∃ t, exec .start s = .next t ∧
    t.calF.toNat = s.img0.toNat * 2 ^ 24 + s.img1.toNat * 2 ^ 16 + s.img2.toNat * 2 ^ 8 + s.img3.toNat ∧
    t.calF = s.statusData 0xA#4 ∧ (t.calV = true ↔ s.img4 = s.params.magic)) ∧
  (∀ p, ∃ t, exec .start { State.reset with openParams := some p } = .next t ∧ t.calF = 0#32 ∧
    (t.calV = true ↔ p.magic = 0x00#8)) ∧
  (∀ s, s.phase = .cfg → s.img0 = 0x00#8 → s.img1 = 0x01#8 → s.img2 = 0xF4#8 → s.img3 = 0x00#8 →
    ∃ t, exec .start s = .next t ∧ t.calF = 0x0001F400#32)

/-- R74, R76: the band is closed and its bounds do not wrap; in it a valid factor gives the exact floor, outside it, or
with no valid factor, the raw value comes back. -/
def Obligations.CalibrateIsTheExactFloorInBandElseRaw : Prop :=
  ∀ (p : Params) (f : Word) (raw : Half), p.Legal →
    ((p.nominalHz : Int) - p.tolHz ≤ f.toNat ∧ (f.toNat : Int) ≤ p.nominalHz + p.tolHz →
      (calibrate p true f raw).toNat = f.toNat * raw.toNat / p.nominalHz) ∧
    (¬ ((p.nominalHz : Int) - p.tolHz ≤ f.toNat ∧ (f.toNat : Int) ≤ p.nominalHz + p.tolHz) →
      (calibrate p true f raw).toNat = raw.toNat) ∧
    (calibrate p false f raw).toNat = raw.toNat

/-- Every calibrated value fits in 17 bits and is at most raw times (2N - 1) over N (40_calibration, section 1). -/
def Obligations.CalibratedValueFitsInSeventeenBits : Prop :=
  (∀ (p : Params) (v : Bool) (f : Word) (raw : Half), p.Legal →
    (calibrate p v f raw).toNat ≤ raw.toNat * (2 * p.nominalHz - 1) / p.nominalHz ∧
    (0 < raw.toNat → (calibrate p v f raw).toNat < 2 * raw.toNat) ∧
    (calibrate p v f raw).toNat < 2 ^ 17) ∧
  calibrate ⟨128000, 12800, 0xA5#8⟩ true 140800#32 65535#16 = 72088#32

/-- The spec's own inference R82: the five laws of the calibrator. -/
def Obligations.CalibratorLaws : Prop :=
  ∀ (p : Params), p.Legal →
    (∀ v f, calibrate p v f 0#16 = 0#32) ∧
    (∀ v f (a b : Half), a.toNat ≤ b.toNat → (calibrate p v f a).toNat ≤ (calibrate p v f b).toNat) ∧
    (∀ v (f : Word) (raw : Half), inBand p f = true →
      (f.toNat ≤ p.nominalHz → (calibrate p v f raw).toNat ≤ raw.toNat) ∧
      (p.nominalHz ≤ f.toNat → raw.toNat ≤ (calibrate p v f raw).toNat)) ∧
    (∀ (f : Word) (raw : Half), f.toNat = p.nominalHz → (calibrate p true f raw).toNat = raw.toNat) ∧
    (∀ f (raw : Half), (calibrate p false f raw).toNat = raw.toNat)

/-- R87: START in CFG phase commits the calibrated configuration, sets the initial duty state and enters RUN with no event
(LOAD is already 1 there, R39); in RUN phase it is ignored; with no writes since reset it commits zeros. -/
def Obligations.StartCommitsTheCalibratedConfiguration : Prop :=
  decode 0x80000000#32 = .command .start ∧
  (∀ s, s.phase = .cfg → s.load = true →
    exec .start s = .next { s with
      calF := s.img0 ++ s.img1 ++ s.img2 ++ s.img3
      calV := decide (s.img4 = s.params.magic)
      onCnt := calibrate s.params (decide (s.img4 = s.params.magic)) (s.img0 ++ s.img1 ++ s.img2 ++ s.img3) s.rawOn
      offCnt := calibrate s.params (decide (s.img4 = s.params.magic)) (s.img0 ++ s.img1 ++ s.img2 ++ s.img3) s.rawOff
      thr := calibrate s.params (decide (s.img4 = s.params.magic)) (s.img0 ++ s.img1 ++ s.img2 ++ s.img3) s.rawThr
      duty := 0b01#2, dcnt := 0#32, vcnt := 0#32, latch := false, load := true, phase := .run }) ∧
  (∀ s, s.phase = .run → exec .start s = .next s) ∧
  (∀ p : Params, p.Legal → ∃ t, exec .start { State.reset with openParams := some p } = .next t ∧
    t.onCnt = 0#32 ∧ t.offCnt = 0#32 ∧ t.thr = 0#32 ∧ t.mode = .protectionOnly)

/-- The spec's own inference R90: CFG-phase writes of different registers commute, and only the last write of each
register before START matters. -/
def Obligations.ConfigurationWritesCommute : Prop :=
  (∀ s i j, writeTarget i ≠ none → writeTarget j ≠ none → writeTarget i ≠ writeTarget j →
    runCommands [i, j] s = runCommands [j, i] s) ∧
  (∀ s is js, (∀ i ∈ is, writeTarget i ≠ none) → (∀ j ∈ js, writeTarget j ≠ none) →
    (∀ r, (writesOf r is).getLast? = (writesOf r js).getLast?) →
    runCommands (is ++ [.start]) s = runCommands (js ++ [.start]) s)

/-- The spec's own inference R49: the write commands, NOP, RESET and START are idempotent in effect, the last write of a
register wins, and TICK is not idempotent. -/
def Obligations.RepeatedCommandsAreIdempotentButTick : Prop :=
  (∀ s i, (writeTarget i ≠ none ∨ i = .nop ∨ i = .reset ∨ i = .start) → runCommands [i, i] s = runCommands [i] s) ∧
  (∀ s i j, writeTarget i ≠ none → writeTarget i = writeTarget j → runCommands [i, j] s = runCommands [j] s) ∧
  (∀ s a, (readStatus a (readStatus a s)) = readStatus a s) ∧
  (∃ s, runCommands [.tick, .tick] s ≠ runCommands [.tick] s)

/-- R113: a command outside its phase changes nothing and emits nothing; in a phase that accepts it, every command but NOP
has an effect in some state. -/
def Obligations.OutOfPhaseCommandsAreIgnored : Prop :=
  (∀ s i, s.phase = .run → (writeTarget i ≠ none ∨ i = .start) → exec i s = .next s) ∧
  (∀ s, s.phase = .cfg → exec .tick s = .next s) ∧
  (∀ i, (writeTarget i ≠ none ∨ i = .start ∨ i = .reset) → ∃ s t, s.phase = .cfg ∧ exec i s = .next t ∧ t ≠ s) ∧
  (∀ i, (i = .tick ∨ i = .reset) → ∃ s t, s.phase = .run ∧ exec i s = .next t ∧ t ≠ s) ∧
  (∀ s, exec .nop s = .next s)

/-- The spec's own inference R88: in RUN phase the configuration is constant until reset, for every command and for every
step. -/
def Obligations.RunConfigurationIsConstantUntilReset : Prop :=
  (∀ i s t, s.phase = .run → i ≠ .reset → exec i s = .next t → t.phase = .run ∧ SameConfiguration s t) ∧
  (∀ s t, s.phase = .run → step s = .next t → (t.phase = .run ∧ SameConfiguration s t) ∨ RegistersReset t)

/-- R17: every register's reset value, and the only commands that may change it. START writes LATCH <- 0 too (R87), which
changes nothing in a state with LATCH = 0 in CFG phase (R39). -/
def Obligations.RegistersChangeOnlyByTheirWriters : Prop :=
  RegistersReset State.reset ∧
  ∀ i s t, (s.phase = .cfg → s.latch = false) → exec i s = .next t →
    (t.phase ≠ s.phase → i = .start ∨ i = .reset) ∧
    (t.img0 ≠ s.img0 → (∃ b, i = .wrfac 0#2 b) ∨ i = .reset) ∧
    (t.img1 ≠ s.img1 → (∃ b, i = .wrfac 1#2 b) ∨ i = .reset) ∧
    (t.img2 ≠ s.img2 → (∃ b, i = .wrfac 2#2 b) ∨ i = .reset) ∧
    (t.img3 ≠ s.img3 → (∃ b, i = .wrfac 3#2 b) ∨ i = .reset) ∧
    (t.img4 ≠ s.img4 → (∃ b, i = .wrmag b) ∨ i = .reset) ∧
    (t.rawOn ≠ s.rawOn → (∃ n, i = .wron n) ∨ i = .reset) ∧
    (t.rawOff ≠ s.rawOff → (∃ n, i = .wroff n) ∨ i = .reset) ∧
    (t.rawThr ≠ s.rawThr → (∃ n, i = .wrthr n) ∨ i = .reset) ∧
    (t.mode ≠ s.mode → (∃ m, i = .wrmode m) ∨ i = .reset) ∧
    (t.calF ≠ s.calF → i = .start ∨ i = .reset) ∧ (t.calV ≠ s.calV → i = .start ∨ i = .reset) ∧
    (t.onCnt ≠ s.onCnt → i = .start ∨ i = .reset) ∧ (t.offCnt ≠ s.offCnt → i = .start ∨ i = .reset) ∧
    (t.thr ≠ s.thr → i = .start ∨ i = .reset) ∧
    (t.duty ≠ s.duty → i = .start ∨ i = .tick ∨ i = .reset) ∧
    (t.dcnt ≠ s.dcnt → i = .start ∨ i = .tick ∨ i = .reset) ∧
    (t.vcnt ≠ s.vcnt → i = .start ∨ i = .tick ∨ i = .reset) ∧
    (t.latch ≠ s.latch → i = .tick ∨ i = .reset) ∧
    (t.load ≠ s.load → i = .start ∨ i = .tick ∨ i = .reset) ∧
    (t.senseEn ≠ s.senseEn → i = .tick ∨ i = .reset)

/-! ### TICK -/

/-- TICK in RUN phase is the monitor's outcome followed by the state machine's, in closed form (42_tick, sections 1 to 3);
in CFG phase nothing happens. -/
def Obligations.TickIsMonitorThenStateMachine : Prop :=
  (∀ s, s.phase = .run → exec .tick s = .next (dutyOutcome (monitorOutcome s))) ∧
  (∀ s, s.phase = .cfg → exec .tick s = .next s)

/-- R93: with LOAD = 0 the monitor does nothing: VCNT holds, no sample, no reading consumed; with LOAD = 1 it runs
whatever MODE is. -/
def Obligations.MonitorRunsExactlyWhileEnergized : Prop :=
  ∀ s t, s.phase = .run → exec .tick s = .next t →
    (s.load = false → t.vcnt = s.vcnt ∧ t.latch = s.latch ∧ t.sense = s.sense ∧ t.senseDraws = s.senseDraws ∧
      ∃ ev, t.events = s.events ++ ev ∧ ∀ e ∈ ev, e = .loadOn ∨ e = .loadOff) ∧
    (s.load = true → t.vcnt = if Boundary s then 0#32 else s.vcnt + 1#32) ∧
    (s.load = true → ∀ m u, exec .tick { s with mode := m } = .next u →
      u.vcnt = t.vcnt ∧ u.latch = t.latch ∧ u.sense = t.sense ∧ u.senseDraws = t.senseDraws)

/-- At a boundary exactly one sampling window runs: its events, in order, come first; its readings are consumed; the
enable is released; the mean is that of a 10-bit reading (42_tick, section 2). -/
def Obligations.BoundaryTickTakesOneSamplingWindow : Prop :=
  ∀ s t, s.phase = .run → s.load = true → Boundary s → exec .tick s = .next t →
    (∃ tail, t.events = s.events ++ windowEvents s ++ tail ∧ (tail = [] ∨ tail = [.loadOff] ∨ tail = [.loadOn])) ∧
    (windowEvents s).length = 34 ∧ t.senseEn = false ∧ t.sense = s.sense.drop 32 ∧
    t.senseDraws = s.senseDraws + (32 - s.sense.length) ∧
    readingSum s < 2 ^ 15 ∧ readingMean s = readingSum s / 32 ∧ readingMean s < 2 ^ 10

/-- R97: the sample trips exactly when its average is strictly below THR; THR = 0 never trips, THR of at least 2^SAMPLE_W
always does. -/
def Obligations.SampleTripsExactlyStrictlyBelowThreshold : Prop :=
  ∀ s t, s.phase = .run → s.load = true → s.latch = false → Boundary s → exec .tick s = .next t →
    (t.latch = true ↔ readingMean s < s.thr.toNat) ∧
    (s.thr.toNat = 0 → t.latch = false) ∧ (2 ^ 10 ≤ s.thr.toNat → t.latch = true)

/-- The spec's own inference R105: on a tripping tick the load is cut and the latch set, after the window, and the state
machine does not run: DUTY and DCNT keep their values, and DUTY is ON in every state the invariant holds of. -/
def Obligations.TripCutsLoadAndSuppressesStateMachine : Prop :=
  ∀ s, s.phase = .run → s.load = true → Boundary s → readingMean s < s.thr.toNat →
    exec .tick s = .next { s with
      vcnt := 0#32, senseEn := false, load := false, latch := true
      sense := s.sense.drop 32, senseDraws := s.senseDraws + (32 - s.sense.length)
      events := s.events ++ windowEvents s ++ [.loadOff] } ∧
    (MachineInv s → s.duty = dutyOn)

/-- R99, R100: gated off, the state machine leaves DUTY, DCNT and LOAD as the monitor left them; otherwise it counts one
tick or makes a transition and restarts the count. -/
def Obligations.StateMachineRunsExactlyInFullFeatureUnlatched : Prop :=
  ∀ s t, s.phase = .run → exec .tick s = .next t →
    (s.mode = .protectionOnly ∨ t.latch = true →
      t.duty = s.duty ∧ t.dcnt = s.dcnt ∧ t.load = (monitorOutcome s).load) ∧
    (s.mode = .fullFeature → t.latch = false →
      (t.dcnt.toNat = (s.dcnt.toNat + 1) % 2 ^ 32 ∧ t.duty = s.duty) ∨ (t.dcnt = 0#32 ∧ t.duty ≠ s.duty))

/-- The ON state: at the on-count the load goes off and DUTY becomes OFF, before it DCNT counts (42_tick, section 3). -/
def Obligations.OnStateLeavesAtTheOnCount : Prop :=
  ∀ s t, s.phase = .run → s.mode = .fullFeature → s.duty = dutyOn → exec .tick s = .next t → t.latch = false →
    (s.onCnt.toNat ≤ (s.dcnt.toNat + 1) % 2 ^ 32 → t.duty = dutyOff ∧ t.dcnt = 0#32 ∧ t.load = false ∧
      (s.load = true → ∃ ev, t.events = s.events ++ ev ++ [.loadOff])) ∧
    ((s.dcnt.toNat + 1) % 2 ^ 32 < s.onCnt.toNat → t.duty = dutyOn ∧ t.dcnt = s.dcnt + 1#32 ∧ t.load = s.load)

/-- The OFF state: at the off-count the load goes on, with no voltage check, and DUTY becomes ON, before it DCNT counts
(42_tick, section 3). -/
def Obligations.OffStateLeavesAtTheOffCount : Prop :=
  ∀ s t, s.phase = .run → s.mode = .fullFeature → s.duty = dutyOff → exec .tick s = .next t → t.latch = false →
    (s.offCnt.toNat ≤ (s.dcnt.toNat + 1) % 2 ^ 32 → t.duty = dutyOn ∧ t.dcnt = 0#32 ∧ t.load = true ∧
      (s.load = false → t.events = s.events ++ [.loadOn])) ∧
    ((s.dcnt.toNat + 1) % 2 ^ 32 < s.offCnt.toNat → t.duty = dutyOff ∧ t.dcnt = s.dcnt + 1#32 ∧ t.load = s.load)

/-- R103: an unrecognized DUTY that the state machine evaluates becomes OFF, with DCNT = 0 and the load off; while the
state machine does not run it stays. -/
def Obligations.UnrecognizedDutyRecoversToOff : Prop :=
  (∀ s t, s.phase = .run → s.duty ≠ dutyOn → s.duty ≠ dutyOff → exec .tick s = .next t →
    (s.mode = .fullFeature → t.latch = false → t.duty = dutyOff ∧ t.dcnt = 0#32 ∧ t.load = false ∧
      (s.load = true → ∃ ev, t.events = s.events ++ ev ++ [.loadOff]) ∧
      (s.load = false → t.events = s.events)) ∧
    (s.mode = .protectionOnly ∨ s.latch = true → t.duty = s.duty)) ∧
  (∀ s, s.phase = .run → s.duty = 0b00#2 → s.dcnt = 7#32 → s.load = true → s.mode = .fullFeature → s.latch = false →
    ¬ Boundary s → exec .tick s = .next { s with
      vcnt := s.vcnt + 1#32, duty := 0b10#2, dcnt := 0#32, load := false, events := s.events ++ [.loadOff] })

/-- The spec's own inference R108: a TICK's events are at most one window, only at a boundary, then at most one LOAD
event; a trip excludes an event of the state machine. -/
def Obligations.TickEventsAreOneWindowThenOneLoadEvent : Prop :=
  ∀ s t, s.phase = .run → exec .tick s = .next t →
    ∃ win tail, t.events = s.events ++ win ++ tail ∧
      (win = [] ∨ (s.load = true ∧ Boundary s ∧ win = windowEvents s)) ∧
      (tail = [] ∨ tail = [.loadOff] ∨ tail = [.loadOn]) ∧
      (s.latch = false → t.latch = true → tail = [.loadOff] ∧ t.duty = s.duty ∧ t.dcnt = s.dcnt)

/-- The spec's own inference R109: a boundary and an ON to OFF transition on one tick: without a trip both happen, the
sample first; with a trip only the trip's LOAD_OFF, and DUTY stays ON. -/
def Obligations.BoundaryAndTransitionOnOneTick : Prop :=
  ∀ s, s.phase = .run → s.mode = .fullFeature → s.latch = false → s.load = true → s.duty = dutyOn → Boundary s →
    s.onCnt.toNat ≤ (s.dcnt.toNat + 1) % 2 ^ 32 →
    (s.thr.toNat ≤ readingMean s → exec .tick s = .next { afterWindow s with
      duty := dutyOff, dcnt := 0#32, load := false, events := s.events ++ windowEvents s ++ [.loadOff] }) ∧
    (readingMean s < s.thr.toNat → exec .tick s = .next { afterWindow s with
      load := false, latch := true, events := s.events ++ windowEvents s ++ [.loadOff] })

/-- The spec's own inference R104: in FullFeature mode with no trip, from the start of RUN phase, LOAD after TICK n is 1
exactly when n mod (a + b) is below a; LOAD_OFF falls exactly at the ticks congruent to a, LOAD_ON at the positive
multiples of a + b. -/
def Obligations.DutyCycleHasItsPeriods : Prop :=
  ∀ (s : State) (a b : Nat), s.phase = .run → s.mode = .fullFeature → s.duty = dutyOn → s.dcnt = 0#32 →
    s.load = true → s.latch = false → a = max s.onCnt.toNat 1 → b = max s.offCnt.toNat 1 →
    ∀ n t, runCommands (ticks n) s = .next t → t.latch = false →
      (t.load = true ↔ n % (a + b) < a) ∧
      ∀ u, exec .tick t = .next u → u.latch = false →
        ∃ ev, u.events = t.events ++ ev ∧ (.loadOff ∈ ev ↔ (n + 1) % (a + b) = a) ∧
          (.loadOn ∈ ev ↔ (n + 1) % (a + b) = 0)

/-- The spec's own inference R106: in ProtectionOnly mode, whatever commands but RESET follow, DUTY stays ON and DCNT 0,
and LOAD changes at most once, from 1 to 0, with the latch. -/
def Obligations.ProtectionOnlyNeverCyclesTheLoad : Prop :=
  ∀ s is t, MachineInv s → s.phase = .run → s.mode = .protectionOnly → .reset ∉ is → runCommands is s = .next t →
    t.duty = dutyOn ∧ t.dcnt = 0#32 ∧
    ∃ ev, t.events = s.events ++ ev ∧ .loadOn ∉ ev ∧ ev.count .loadOff ≤ 1 ∧
      (.loadOff ∈ ev ↔ s.latch = false ∧ t.latch = true)

/-- The spec's own inference R107: with the load off VCNT holds and no sample is taken, the re-energizing tick included;
from then on, while the load stays on, the first sample comes at the tick numbered UV_INTERVAL - VCNT. -/
def Obligations.IntervalIsHeldWhileOffAndResumes : Prop :=
  (∀ s t, s.phase = .run → s.load = false → exec .tick s = .next t →
    t.vcnt = s.vcnt ∧ t.sense = s.sense ∧ t.senseDraws = s.senseDraws ∧ ∀ x, Event.read x ∈ t.events → Event.read x ∈ s.events) ∧
  (∀ s k t, s.phase = .run → s.vcnt.toNat < Config.uvInterval → k < Config.uvInterval - s.vcnt.toNat →
    (∀ j u, j ≤ k → runCommands (ticks j) s = .next u → u.load = true) → runCommands (ticks k) s = .next t →
    t.vcnt.toNat = s.vcnt.toNat + k ∧ t.sense = s.sense ∧ t.senseDraws = s.senseDraws ∧
    (Boundary t ↔ k + 1 = Config.uvInterval - s.vcnt.toNat))

/-! ### Invariants and reachable states -/

/-- Every step keeps the invariant: LOAD mirrors DUTY and LATCH, DUTY is recognized, the accumulators stay below their
counts, CFG phase is quiet, the active configuration is the committed one, SENSE_EN is 0. -/
def Obligations.EveryStepKeepsTheInvariant : Prop :=
  ∀ s t, MachineInv s → step s = .next t → MachineInv t

/-- The invariant holds after reset, whatever the parameters R8 allows, the outside world and the sense environment are.
-/
def Obligations.TheInvariantHoldsAfterReset : Prop :=
  MachineInv State.reset ∧
  ∀ (p : Option Params) host sense draws, (p.getD Config.params).Legal →
    MachineInv { State.reset with openParams := p, host := host, sense := sense, senseDraws := draws }

/-- The spec's own inference R35: in every reachable state LOAD is 1 exactly when DUTY is ON and LATCH is 0. -/
def Obligations.ReachableLoadMirrorsDutyAndLatch : Prop :=
  ∀ s, Reachable s → (s.load = true ↔ s.duty = 0b01#2 ∧ s.latch = false)

/-- The spec's own inference R36: once LATCH = 1, any number of further TICKs changes no register and emits no event. -/
def Obligations.LatchedTicksChangeNothing : Prop :=
  ∀ s n, Reachable s → s.latch = true → runCommands (ticks n) s = .next s

/-- The spec's own inference R37: in every reachable state the accumulators are below their counts, so their increments do
not wrap. -/
def Obligations.ReachableAccumulatorsStayBelowTheirCounts : Prop :=
  ∀ s, Reachable s →
    (s.duty = dutyOn → s.dcnt.toNat < max s.onCnt.toNat 1) ∧
    (s.duty = dutyOff → s.dcnt.toNat < max s.offCnt.toNat 1) ∧
    s.vcnt.toNat < max Config.uvInterval 1 ∧
    (s.dcnt + 1#32).toNat = s.dcnt.toNat + 1 ∧ (s.vcnt + 1#32).toNat = s.vcnt.toNat + 1

/-- The spec's own inference R39: what every reachable state in CFG phase holds. -/
def Obligations.ReachableCfgPhaseHoldsItsValues : Prop :=
  ∀ s, Reachable s → s.phase = .cfg →
    s.duty = 0b01#2 ∧ s.load = true ∧ s.latch = false ∧ s.dcnt = 0#32 ∧ s.vcnt = 0#32 ∧ s.senseEn = false ∧
    s.calF = 0#32 ∧ s.calV = false ∧ s.onCnt = 0#32 ∧ s.offCnt = 0#32 ∧ s.thr = 0#32

/-- In every reachable state the active registers are below 2^17; in RUN phase with CAL_V = 0 they equal their raw
registers (10_state, section 5; in CFG phase they hold their reset values, R39: assumption log 7). -/
def Obligations.ReachableActiveRegistersAreBounded : Prop :=
  ∀ s, Reachable s →
    s.onCnt.toNat < 2 ^ 17 ∧ s.offCnt.toNat < 2 ^ 17 ∧ s.thr.toNat < 2 ^ 17 ∧
    (s.phase = .run → s.calV = false →
      s.onCnt.toNat = s.rawOn.toNat ∧ s.offCnt.toNat = s.rawOff.toNat ∧ s.thr.toNat = s.rawThr.toNat)

/-- R27: LATCH is 0 at reset; only the threshold comparator sets it; nothing clears it but a reset. -/
def Obligations.LatchIsOneWayUntilReset : Prop :=
  State.reset.latch = false ∧
  ∀ s t, Reachable s → step s = .next t →
    (s.latch = true → t.latch = true ∨ RegistersReset t) ∧
    (s.latch = false → t.latch = true →
      s.phase = .run ∧ s.load = true ∧ Boundary s ∧ readingMean s < s.thr.toNat)

/-! ### The assembler beyond R71's list -/

/-- The model's reading (assumption log 14): a factor of LDCAL or BOOT, or a raw word, of more than 32 bits assembles to no
word, since R66 calls the factor a 32-bit value and no operand is truncated. -/
def Obligations.AssemblerRejectsValuesBeyondOneWord : Prop :=
  (∀ f byte, 2 ^ 32 ≤ f → assemble (.ldcal f byte) = none ∧
    ∀ on off thr mode, assemble (.bootCal on off thr mode f byte) = none) ∧
  (∀ w, 2 ^ 32 ≤ w → assemble (.word w) = none)
end

