-- ==== Sys2Proof/Laws/State.lean ====
section
/-! SUPPORT. One lemma per field per named update of State: later proofs unfold no record update. -/

namespace Sys2Proof.Laws

open Sys2Proof.Machine


/-! ### emit -/

@[simp] theorem emit_phase (e : Event) (s : State) : (emit e s).phase = s.phase := rfl
@[simp] theorem emit_img0 (e : Event) (s : State) : (emit e s).img0 = s.img0 := rfl
@[simp] theorem emit_img1 (e : Event) (s : State) : (emit e s).img1 = s.img1 := rfl
@[simp] theorem emit_img2 (e : Event) (s : State) : (emit e s).img2 = s.img2 := rfl
@[simp] theorem emit_img3 (e : Event) (s : State) : (emit e s).img3 = s.img3 := rfl
@[simp] theorem emit_img4 (e : Event) (s : State) : (emit e s).img4 = s.img4 := rfl
@[simp] theorem emit_rawOn (e : Event) (s : State) : (emit e s).rawOn = s.rawOn := rfl
@[simp] theorem emit_rawOff (e : Event) (s : State) : (emit e s).rawOff = s.rawOff := rfl
@[simp] theorem emit_rawThr (e : Event) (s : State) : (emit e s).rawThr = s.rawThr := rfl
@[simp] theorem emit_mode (e : Event) (s : State) : (emit e s).mode = s.mode := rfl
@[simp] theorem emit_calF (e : Event) (s : State) : (emit e s).calF = s.calF := rfl
@[simp] theorem emit_calV (e : Event) (s : State) : (emit e s).calV = s.calV := rfl
@[simp] theorem emit_onCnt (e : Event) (s : State) : (emit e s).onCnt = s.onCnt := rfl
@[simp] theorem emit_offCnt (e : Event) (s : State) : (emit e s).offCnt = s.offCnt := rfl
@[simp] theorem emit_thr (e : Event) (s : State) : (emit e s).thr = s.thr := rfl
@[simp] theorem emit_duty (e : Event) (s : State) : (emit e s).duty = s.duty := rfl
@[simp] theorem emit_dcnt (e : Event) (s : State) : (emit e s).dcnt = s.dcnt := rfl
@[simp] theorem emit_vcnt (e : Event) (s : State) : (emit e s).vcnt = s.vcnt := rfl
@[simp] theorem emit_latch (e : Event) (s : State) : (emit e s).latch = s.latch := rfl
@[simp] theorem emit_load (e : Event) (s : State) : (emit e s).load = s.load := rfl
@[simp] theorem emit_senseEn (e : Event) (s : State) : (emit e s).senseEn = s.senseEn := rfl
@[simp] theorem emit_openParams (e : Event) (s : State) : (emit e s).openParams = s.openParams := rfl
@[simp] theorem emit_host (e : Event) (s : State) : (emit e s).host = s.host := rfl
@[simp] theorem emit_sense (e : Event) (s : State) : (emit e s).sense = s.sense := rfl
@[simp] theorem emit_senseDraws (e : Event) (s : State) : (emit e s).senseDraws = s.senseDraws := rfl
@[simp] theorem emit_events (e : Event) (s : State) : (emit e s).events = s.events ++ [e] := rfl
@[simp] theorem emit_readData (e : Event) (s : State) : (emit e s).readData = s.readData := rfl

/-! ### beginStep -/

@[simp] theorem beginStep_phase (s : State) : (beginStep s).phase = s.phase := rfl
@[simp] theorem beginStep_img0 (s : State) : (beginStep s).img0 = s.img0 := rfl
@[simp] theorem beginStep_img1 (s : State) : (beginStep s).img1 = s.img1 := rfl
@[simp] theorem beginStep_img2 (s : State) : (beginStep s).img2 = s.img2 := rfl
@[simp] theorem beginStep_img3 (s : State) : (beginStep s).img3 = s.img3 := rfl
@[simp] theorem beginStep_img4 (s : State) : (beginStep s).img4 = s.img4 := rfl
@[simp] theorem beginStep_rawOn (s : State) : (beginStep s).rawOn = s.rawOn := rfl
@[simp] theorem beginStep_rawOff (s : State) : (beginStep s).rawOff = s.rawOff := rfl
@[simp] theorem beginStep_rawThr (s : State) : (beginStep s).rawThr = s.rawThr := rfl
@[simp] theorem beginStep_mode (s : State) : (beginStep s).mode = s.mode := rfl
@[simp] theorem beginStep_calF (s : State) : (beginStep s).calF = s.calF := rfl
@[simp] theorem beginStep_calV (s : State) : (beginStep s).calV = s.calV := rfl
@[simp] theorem beginStep_onCnt (s : State) : (beginStep s).onCnt = s.onCnt := rfl
@[simp] theorem beginStep_offCnt (s : State) : (beginStep s).offCnt = s.offCnt := rfl
@[simp] theorem beginStep_thr (s : State) : (beginStep s).thr = s.thr := rfl
@[simp] theorem beginStep_duty (s : State) : (beginStep s).duty = s.duty := rfl
@[simp] theorem beginStep_dcnt (s : State) : (beginStep s).dcnt = s.dcnt := rfl
@[simp] theorem beginStep_vcnt (s : State) : (beginStep s).vcnt = s.vcnt := rfl
@[simp] theorem beginStep_latch (s : State) : (beginStep s).latch = s.latch := rfl
@[simp] theorem beginStep_load (s : State) : (beginStep s).load = s.load := rfl
@[simp] theorem beginStep_senseEn (s : State) : (beginStep s).senseEn = s.senseEn := rfl
@[simp] theorem beginStep_openParams (s : State) : (beginStep s).openParams = s.openParams := rfl
@[simp] theorem beginStep_host (s : State) : (beginStep s).host = s.host := rfl
@[simp] theorem beginStep_sense (s : State) : (beginStep s).sense = s.sense := rfl
@[simp] theorem beginStep_senseDraws (s : State) : (beginStep s).senseDraws = s.senseDraws := rfl
@[simp] theorem beginStep_events (s : State) : (beginStep s).events = [] := rfl
@[simp] theorem beginStep_readData (s : State) : (beginStep s).readData = none := rfl

/-! ### calLoad -/

@[simp] theorem calLoad_phase (s : State) : (calLoad s).phase = s.phase := rfl
@[simp] theorem calLoad_img0 (s : State) : (calLoad s).img0 = s.img0 := rfl
@[simp] theorem calLoad_img1 (s : State) : (calLoad s).img1 = s.img1 := rfl
@[simp] theorem calLoad_img2 (s : State) : (calLoad s).img2 = s.img2 := rfl
@[simp] theorem calLoad_img3 (s : State) : (calLoad s).img3 = s.img3 := rfl
@[simp] theorem calLoad_img4 (s : State) : (calLoad s).img4 = s.img4 := rfl
@[simp] theorem calLoad_rawOn (s : State) : (calLoad s).rawOn = s.rawOn := rfl
@[simp] theorem calLoad_rawOff (s : State) : (calLoad s).rawOff = s.rawOff := rfl
@[simp] theorem calLoad_rawThr (s : State) : (calLoad s).rawThr = s.rawThr := rfl
@[simp] theorem calLoad_mode (s : State) : (calLoad s).mode = s.mode := rfl
@[simp] theorem calLoad_calF (s : State) : (calLoad s).calF = s.imgFactor := rfl
@[simp] theorem calLoad_calV (s : State) : (calLoad s).calV = magicMatches s := rfl
@[simp] theorem calLoad_onCnt (s : State) : (calLoad s).onCnt = s.onCnt := rfl
@[simp] theorem calLoad_offCnt (s : State) : (calLoad s).offCnt = s.offCnt := rfl
@[simp] theorem calLoad_thr (s : State) : (calLoad s).thr = s.thr := rfl
@[simp] theorem calLoad_duty (s : State) : (calLoad s).duty = s.duty := rfl
@[simp] theorem calLoad_dcnt (s : State) : (calLoad s).dcnt = s.dcnt := rfl
@[simp] theorem calLoad_vcnt (s : State) : (calLoad s).vcnt = s.vcnt := rfl
@[simp] theorem calLoad_latch (s : State) : (calLoad s).latch = s.latch := rfl
@[simp] theorem calLoad_load (s : State) : (calLoad s).load = s.load := rfl
@[simp] theorem calLoad_senseEn (s : State) : (calLoad s).senseEn = s.senseEn := rfl
@[simp] theorem calLoad_openParams (s : State) : (calLoad s).openParams = s.openParams := rfl
@[simp] theorem calLoad_host (s : State) : (calLoad s).host = s.host := rfl
@[simp] theorem calLoad_sense (s : State) : (calLoad s).sense = s.sense := rfl
@[simp] theorem calLoad_senseDraws (s : State) : (calLoad s).senseDraws = s.senseDraws := rfl
@[simp] theorem calLoad_events (s : State) : (calLoad s).events = s.events := rfl
@[simp] theorem calLoad_readData (s : State) : (calLoad s).readData = s.readData := rfl

/-! ### loadConfiguration -/

@[simp] theorem loadConfiguration_phase (s : State) : (loadConfiguration s).phase = s.phase := rfl
@[simp] theorem loadConfiguration_img0 (s : State) : (loadConfiguration s).img0 = s.img0 := rfl
@[simp] theorem loadConfiguration_img1 (s : State) : (loadConfiguration s).img1 = s.img1 := rfl
@[simp] theorem loadConfiguration_img2 (s : State) : (loadConfiguration s).img2 = s.img2 := rfl
@[simp] theorem loadConfiguration_img3 (s : State) : (loadConfiguration s).img3 = s.img3 := rfl
@[simp] theorem loadConfiguration_img4 (s : State) : (loadConfiguration s).img4 = s.img4 := rfl
@[simp] theorem loadConfiguration_rawOn (s : State) : (loadConfiguration s).rawOn = s.rawOn := rfl
@[simp] theorem loadConfiguration_rawOff (s : State) : (loadConfiguration s).rawOff = s.rawOff := rfl
@[simp] theorem loadConfiguration_rawThr (s : State) : (loadConfiguration s).rawThr = s.rawThr := rfl
@[simp] theorem loadConfiguration_mode (s : State) : (loadConfiguration s).mode = s.mode := rfl
@[simp] theorem loadConfiguration_calF (s : State) : (loadConfiguration s).calF = s.calF := rfl
@[simp] theorem loadConfiguration_calV (s : State) : (loadConfiguration s).calV = s.calV := rfl
@[simp] theorem loadConfiguration_onCnt (s : State) : (loadConfiguration s).onCnt = calibrate s.params s.calV s.calF s.rawOn := rfl
@[simp] theorem loadConfiguration_offCnt (s : State) : (loadConfiguration s).offCnt = calibrate s.params s.calV s.calF s.rawOff := rfl
@[simp] theorem loadConfiguration_thr (s : State) : (loadConfiguration s).thr = calibrate s.params s.calV s.calF s.rawThr := rfl
@[simp] theorem loadConfiguration_duty (s : State) : (loadConfiguration s).duty = s.duty := rfl
@[simp] theorem loadConfiguration_dcnt (s : State) : (loadConfiguration s).dcnt = s.dcnt := rfl
@[simp] theorem loadConfiguration_vcnt (s : State) : (loadConfiguration s).vcnt = s.vcnt := rfl
@[simp] theorem loadConfiguration_latch (s : State) : (loadConfiguration s).latch = s.latch := rfl
@[simp] theorem loadConfiguration_load (s : State) : (loadConfiguration s).load = s.load := rfl
@[simp] theorem loadConfiguration_senseEn (s : State) : (loadConfiguration s).senseEn = s.senseEn := rfl
@[simp] theorem loadConfiguration_openParams (s : State) : (loadConfiguration s).openParams = s.openParams := rfl
@[simp] theorem loadConfiguration_host (s : State) : (loadConfiguration s).host = s.host := rfl
@[simp] theorem loadConfiguration_sense (s : State) : (loadConfiguration s).sense = s.sense := rfl
@[simp] theorem loadConfiguration_senseDraws (s : State) : (loadConfiguration s).senseDraws = s.senseDraws := rfl
@[simp] theorem loadConfiguration_events (s : State) : (loadConfiguration s).events = s.events := rfl
@[simp] theorem loadConfiguration_readData (s : State) : (loadConfiguration s).readData = s.readData := rfl

/-! ### readStatus -/

@[simp] theorem readStatus_phase (a : StatusAddr) (s : State) : (readStatus a s).phase = s.phase := rfl
@[simp] theorem readStatus_img0 (a : StatusAddr) (s : State) : (readStatus a s).img0 = s.img0 := rfl
@[simp] theorem readStatus_img1 (a : StatusAddr) (s : State) : (readStatus a s).img1 = s.img1 := rfl
@[simp] theorem readStatus_img2 (a : StatusAddr) (s : State) : (readStatus a s).img2 = s.img2 := rfl
@[simp] theorem readStatus_img3 (a : StatusAddr) (s : State) : (readStatus a s).img3 = s.img3 := rfl
@[simp] theorem readStatus_img4 (a : StatusAddr) (s : State) : (readStatus a s).img4 = s.img4 := rfl
@[simp] theorem readStatus_rawOn (a : StatusAddr) (s : State) : (readStatus a s).rawOn = s.rawOn := rfl
@[simp] theorem readStatus_rawOff (a : StatusAddr) (s : State) : (readStatus a s).rawOff = s.rawOff := rfl
@[simp] theorem readStatus_rawThr (a : StatusAddr) (s : State) : (readStatus a s).rawThr = s.rawThr := rfl
@[simp] theorem readStatus_mode (a : StatusAddr) (s : State) : (readStatus a s).mode = s.mode := rfl
@[simp] theorem readStatus_calF (a : StatusAddr) (s : State) : (readStatus a s).calF = s.calF := rfl
@[simp] theorem readStatus_calV (a : StatusAddr) (s : State) : (readStatus a s).calV = s.calV := rfl
@[simp] theorem readStatus_onCnt (a : StatusAddr) (s : State) : (readStatus a s).onCnt = s.onCnt := rfl
@[simp] theorem readStatus_offCnt (a : StatusAddr) (s : State) : (readStatus a s).offCnt = s.offCnt := rfl
@[simp] theorem readStatus_thr (a : StatusAddr) (s : State) : (readStatus a s).thr = s.thr := rfl
@[simp] theorem readStatus_duty (a : StatusAddr) (s : State) : (readStatus a s).duty = s.duty := rfl
@[simp] theorem readStatus_dcnt (a : StatusAddr) (s : State) : (readStatus a s).dcnt = s.dcnt := rfl
@[simp] theorem readStatus_vcnt (a : StatusAddr) (s : State) : (readStatus a s).vcnt = s.vcnt := rfl
@[simp] theorem readStatus_latch (a : StatusAddr) (s : State) : (readStatus a s).latch = s.latch := rfl
@[simp] theorem readStatus_load (a : StatusAddr) (s : State) : (readStatus a s).load = s.load := rfl
@[simp] theorem readStatus_senseEn (a : StatusAddr) (s : State) : (readStatus a s).senseEn = s.senseEn := rfl
@[simp] theorem readStatus_openParams (a : StatusAddr) (s : State) : (readStatus a s).openParams = s.openParams := rfl
@[simp] theorem readStatus_host (a : StatusAddr) (s : State) : (readStatus a s).host = s.host := rfl
@[simp] theorem readStatus_sense (a : StatusAddr) (s : State) : (readStatus a s).sense = s.sense := rfl
@[simp] theorem readStatus_senseDraws (a : StatusAddr) (s : State) : (readStatus a s).senseDraws = s.senseDraws := rfl
@[simp] theorem readStatus_events (a : StatusAddr) (s : State) : (readStatus a s).events = s.events := rfl
@[simp] theorem readStatus_readData (a : StatusAddr) (s : State) : (readStatus a s).readData = some (s.statusData a) := rfl

/-! ### consumeReading -/

@[simp] theorem consumeReading_phase (s : State) : (consumeReading s).phase = s.phase := by unfold consumeReading; split <;> rfl
@[simp] theorem consumeReading_img0 (s : State) : (consumeReading s).img0 = s.img0 := by unfold consumeReading; split <;> rfl
@[simp] theorem consumeReading_img1 (s : State) : (consumeReading s).img1 = s.img1 := by unfold consumeReading; split <;> rfl
@[simp] theorem consumeReading_img2 (s : State) : (consumeReading s).img2 = s.img2 := by unfold consumeReading; split <;> rfl
@[simp] theorem consumeReading_img3 (s : State) : (consumeReading s).img3 = s.img3 := by unfold consumeReading; split <;> rfl
@[simp] theorem consumeReading_img4 (s : State) : (consumeReading s).img4 = s.img4 := by unfold consumeReading; split <;> rfl
@[simp] theorem consumeReading_rawOn (s : State) : (consumeReading s).rawOn = s.rawOn := by unfold consumeReading; split <;> rfl
@[simp] theorem consumeReading_rawOff (s : State) : (consumeReading s).rawOff = s.rawOff := by unfold consumeReading; split <;> rfl
@[simp] theorem consumeReading_rawThr (s : State) : (consumeReading s).rawThr = s.rawThr := by unfold consumeReading; split <;> rfl
@[simp] theorem consumeReading_mode (s : State) : (consumeReading s).mode = s.mode := by unfold consumeReading; split <;> rfl
@[simp] theorem consumeReading_calF (s : State) : (consumeReading s).calF = s.calF := by unfold consumeReading; split <;> rfl
@[simp] theorem consumeReading_calV (s : State) : (consumeReading s).calV = s.calV := by unfold consumeReading; split <;> rfl
@[simp] theorem consumeReading_onCnt (s : State) : (consumeReading s).onCnt = s.onCnt := by unfold consumeReading; split <;> rfl
@[simp] theorem consumeReading_offCnt (s : State) : (consumeReading s).offCnt = s.offCnt := by unfold consumeReading; split <;> rfl
@[simp] theorem consumeReading_thr (s : State) : (consumeReading s).thr = s.thr := by unfold consumeReading; split <;> rfl
@[simp] theorem consumeReading_duty (s : State) : (consumeReading s).duty = s.duty := by unfold consumeReading; split <;> rfl
@[simp] theorem consumeReading_dcnt (s : State) : (consumeReading s).dcnt = s.dcnt := by unfold consumeReading; split <;> rfl
@[simp] theorem consumeReading_vcnt (s : State) : (consumeReading s).vcnt = s.vcnt := by unfold consumeReading; split <;> rfl
@[simp] theorem consumeReading_latch (s : State) : (consumeReading s).latch = s.latch := by unfold consumeReading; split <;> rfl
@[simp] theorem consumeReading_load (s : State) : (consumeReading s).load = s.load := by unfold consumeReading; split <;> rfl
@[simp] theorem consumeReading_senseEn (s : State) : (consumeReading s).senseEn = s.senseEn := by unfold consumeReading; split <;> rfl
@[simp] theorem consumeReading_openParams (s : State) : (consumeReading s).openParams = s.openParams := by unfold consumeReading; split <;> rfl
@[simp] theorem consumeReading_host (s : State) : (consumeReading s).host = s.host := by unfold consumeReading; split <;> rfl
@[simp] theorem consumeReading_events (s : State) : (consumeReading s).events = s.events := by unfold consumeReading; split <;> rfl
@[simp] theorem consumeReading_readData (s : State) : (consumeReading s).readData = s.readData := by unfold consumeReading; split <;> rfl

/-! ### setLoad -/

@[simp] theorem setLoad_phase (x : Bool) (s : State) : (setLoad x s).phase = s.phase := by unfold setLoad; split <;> rfl
@[simp] theorem setLoad_img0 (x : Bool) (s : State) : (setLoad x s).img0 = s.img0 := by unfold setLoad; split <;> rfl
@[simp] theorem setLoad_img1 (x : Bool) (s : State) : (setLoad x s).img1 = s.img1 := by unfold setLoad; split <;> rfl
@[simp] theorem setLoad_img2 (x : Bool) (s : State) : (setLoad x s).img2 = s.img2 := by unfold setLoad; split <;> rfl
@[simp] theorem setLoad_img3 (x : Bool) (s : State) : (setLoad x s).img3 = s.img3 := by unfold setLoad; split <;> rfl
@[simp] theorem setLoad_img4 (x : Bool) (s : State) : (setLoad x s).img4 = s.img4 := by unfold setLoad; split <;> rfl
@[simp] theorem setLoad_rawOn (x : Bool) (s : State) : (setLoad x s).rawOn = s.rawOn := by unfold setLoad; split <;> rfl
@[simp] theorem setLoad_rawOff (x : Bool) (s : State) : (setLoad x s).rawOff = s.rawOff := by unfold setLoad; split <;> rfl
@[simp] theorem setLoad_rawThr (x : Bool) (s : State) : (setLoad x s).rawThr = s.rawThr := by unfold setLoad; split <;> rfl
@[simp] theorem setLoad_mode (x : Bool) (s : State) : (setLoad x s).mode = s.mode := by unfold setLoad; split <;> rfl
@[simp] theorem setLoad_calF (x : Bool) (s : State) : (setLoad x s).calF = s.calF := by unfold setLoad; split <;> rfl
@[simp] theorem setLoad_calV (x : Bool) (s : State) : (setLoad x s).calV = s.calV := by unfold setLoad; split <;> rfl
@[simp] theorem setLoad_onCnt (x : Bool) (s : State) : (setLoad x s).onCnt = s.onCnt := by unfold setLoad; split <;> rfl
@[simp] theorem setLoad_offCnt (x : Bool) (s : State) : (setLoad x s).offCnt = s.offCnt := by unfold setLoad; split <;> rfl
@[simp] theorem setLoad_thr (x : Bool) (s : State) : (setLoad x s).thr = s.thr := by unfold setLoad; split <;> rfl
@[simp] theorem setLoad_duty (x : Bool) (s : State) : (setLoad x s).duty = s.duty := by unfold setLoad; split <;> rfl
@[simp] theorem setLoad_dcnt (x : Bool) (s : State) : (setLoad x s).dcnt = s.dcnt := by unfold setLoad; split <;> rfl
@[simp] theorem setLoad_vcnt (x : Bool) (s : State) : (setLoad x s).vcnt = s.vcnt := by unfold setLoad; split <;> rfl
@[simp] theorem setLoad_latch (x : Bool) (s : State) : (setLoad x s).latch = s.latch := by unfold setLoad; split <;> rfl
@[simp] theorem setLoad_senseEn (x : Bool) (s : State) : (setLoad x s).senseEn = s.senseEn := by unfold setLoad; split <;> rfl
@[simp] theorem setLoad_openParams (x : Bool) (s : State) : (setLoad x s).openParams = s.openParams := by unfold setLoad; split <;> rfl
@[simp] theorem setLoad_host (x : Bool) (s : State) : (setLoad x s).host = s.host := by unfold setLoad; split <;> rfl
@[simp] theorem setLoad_sense (x : Bool) (s : State) : (setLoad x s).sense = s.sense := by unfold setLoad; split <;> rfl
@[simp] theorem setLoad_senseDraws (x : Bool) (s : State) : (setLoad x s).senseDraws = s.senseDraws := by unfold setLoad; split <;> rfl
@[simp] theorem setLoad_readData (x : Bool) (s : State) : (setLoad x s).readData = s.readData := by unfold setLoad; split <;> rfl

/-! ### setSenseEn -/

@[simp] theorem setSenseEn_phase (x : Bool) (s : State) : (setSenseEn x s).phase = s.phase := by unfold setSenseEn; split <;> rfl
@[simp] theorem setSenseEn_img0 (x : Bool) (s : State) : (setSenseEn x s).img0 = s.img0 := by unfold setSenseEn; split <;> rfl
@[simp] theorem setSenseEn_img1 (x : Bool) (s : State) : (setSenseEn x s).img1 = s.img1 := by unfold setSenseEn; split <;> rfl
@[simp] theorem setSenseEn_img2 (x : Bool) (s : State) : (setSenseEn x s).img2 = s.img2 := by unfold setSenseEn; split <;> rfl
@[simp] theorem setSenseEn_img3 (x : Bool) (s : State) : (setSenseEn x s).img3 = s.img3 := by unfold setSenseEn; split <;> rfl
@[simp] theorem setSenseEn_img4 (x : Bool) (s : State) : (setSenseEn x s).img4 = s.img4 := by unfold setSenseEn; split <;> rfl
@[simp] theorem setSenseEn_rawOn (x : Bool) (s : State) : (setSenseEn x s).rawOn = s.rawOn := by unfold setSenseEn; split <;> rfl
@[simp] theorem setSenseEn_rawOff (x : Bool) (s : State) : (setSenseEn x s).rawOff = s.rawOff := by unfold setSenseEn; split <;> rfl
@[simp] theorem setSenseEn_rawThr (x : Bool) (s : State) : (setSenseEn x s).rawThr = s.rawThr := by unfold setSenseEn; split <;> rfl
@[simp] theorem setSenseEn_mode (x : Bool) (s : State) : (setSenseEn x s).mode = s.mode := by unfold setSenseEn; split <;> rfl
@[simp] theorem setSenseEn_calF (x : Bool) (s : State) : (setSenseEn x s).calF = s.calF := by unfold setSenseEn; split <;> rfl
@[simp] theorem setSenseEn_calV (x : Bool) (s : State) : (setSenseEn x s).calV = s.calV := by unfold setSenseEn; split <;> rfl
@[simp] theorem setSenseEn_onCnt (x : Bool) (s : State) : (setSenseEn x s).onCnt = s.onCnt := by unfold setSenseEn; split <;> rfl
@[simp] theorem setSenseEn_offCnt (x : Bool) (s : State) : (setSenseEn x s).offCnt = s.offCnt := by unfold setSenseEn; split <;> rfl
@[simp] theorem setSenseEn_thr (x : Bool) (s : State) : (setSenseEn x s).thr = s.thr := by unfold setSenseEn; split <;> rfl
@[simp] theorem setSenseEn_duty (x : Bool) (s : State) : (setSenseEn x s).duty = s.duty := by unfold setSenseEn; split <;> rfl
@[simp] theorem setSenseEn_dcnt (x : Bool) (s : State) : (setSenseEn x s).dcnt = s.dcnt := by unfold setSenseEn; split <;> rfl
@[simp] theorem setSenseEn_vcnt (x : Bool) (s : State) : (setSenseEn x s).vcnt = s.vcnt := by unfold setSenseEn; split <;> rfl
@[simp] theorem setSenseEn_latch (x : Bool) (s : State) : (setSenseEn x s).latch = s.latch := by unfold setSenseEn; split <;> rfl
@[simp] theorem setSenseEn_load (x : Bool) (s : State) : (setSenseEn x s).load = s.load := by unfold setSenseEn; split <;> rfl
@[simp] theorem setSenseEn_openParams (x : Bool) (s : State) : (setSenseEn x s).openParams = s.openParams := by unfold setSenseEn; split <;> rfl
@[simp] theorem setSenseEn_host (x : Bool) (s : State) : (setSenseEn x s).host = s.host := by unfold setSenseEn; split <;> rfl
@[simp] theorem setSenseEn_sense (x : Bool) (s : State) : (setSenseEn x s).sense = s.sense := by unfold setSenseEn; split <;> rfl
@[simp] theorem setSenseEn_senseDraws (x : Bool) (s : State) : (setSenseEn x s).senseDraws = s.senseDraws := by unfold setSenseEn; split <;> rfl
@[simp] theorem setSenseEn_readData (x : Bool) (s : State) : (setSenseEn x s).readData = s.readData := by unfold setSenseEn; split <;> rfl

@[simp] theorem setLoad_load (x : Bool) (s : State) : (setLoad x s).load = x := by
  unfold setLoad; split <;> simp_all

@[simp] theorem setSenseEn_senseEn (x : Bool) (s : State) : (setSenseEn x s).senseEn = x := by
  unfold setSenseEn; split <;> simp_all

@[simp] theorem setLoad_events (x : Bool) (s : State) :
    (setLoad x s).events = s.events ++ if s.load = x then [] else [if x then .loadOn else .loadOff] := by
  unfold setLoad; split <;> simp_all

@[simp] theorem setSenseEn_events (x : Bool) (s : State) :
    (setSenseEn x s).events = s.events ++ if s.senseEn = x then [] else [if x then .senseOn else .senseOff] := by
  unfold setSenseEn; split <;> simp_all

end Sys2Proof.Laws
end

