-- ==== Sys2Proof/Laws/Ops.lean ====
section
/-! SUPPORT. One lemma per shared operation that says once everything it can do. -/

namespace Sys2Proof.Laws

open Sys2Proof.Machine

/-! ### Outputs and events -/

/-- Everything `setLoad` does: LOAD takes the value, and a change emits its event. -/
theorem setLoad_eq (x : Bool) (s : State) :
    setLoad x s = { s with
      load := x
      events := s.events ++ if s.load = x then [] else [if x then .loadOn else .loadOff] } := by
  unfold setLoad
  split
  · next h => subst h; simp
  · rfl

/-- Everything `setSenseEn` does. -/
theorem setSenseEn_eq (x : Bool) (s : State) :
    setSenseEn x s = { s with
      senseEn := x
      events := s.events ++ if s.senseEn = x then [] else [if x then .senseOn else .senseOff] } := by
  unfold setSenseEn
  split
  · next h => subst h; simp
  · rfl

/-- Everything `applyReset` does: the registers of the reset state, the events of the outputs that change, and no change
of the other fields. -/
theorem applyReset_eq (s : State) :
    applyReset s = { State.reset with
      openParams := s.openParams
      host := s.host
      sense := s.sense
      senseDraws := s.senseDraws
      readData := s.readData
      events := s.events ++ ((if s.load then [] else [.loadOn]) ++ if s.senseEn then [.senseOff] else []) } := by
  unfold applyReset
  rw [setLoad_eq, setSenseEn_eq]
  cases s.load <;> cases s.senseEn <;> simp [State.reset]

/-! ### Phase acceptance -/

@[simp] theorem inPhase_of_eq {p : Phase} {f : State → State} {s : State} (h : s.phase = p) : inPhase p f s = f s :=
  if_pos h

@[simp] theorem inPhase_of_ne {p : Phase} {f : State → State} {s : State} (h : s.phase ≠ p) : inPhase p f s = s :=
  if_neg h

/-! ### The calibration image -/

/-- Writing a factor byte and reading it back gives the byte written. -/
theorem imgByte_setImgByte_same (s : State) (i : BitVec 2) (b : Byte) : (s.setImgByte i b).imgByte i = b := by
  unfold State.setImgByte State.imgByte
  split_ifs <;> rfl

/-- Writing a factor byte leaves the others alone. -/
theorem imgByte_setImgByte_other (s : State) {i j : BitVec 2} (b : Byte) (h : j ≠ i) :
    (s.setImgByte i b).imgByte j = s.imgByte j := by
  have cover : ∀ k : BitVec 2, k ≠ 0#2 → k ≠ 1#2 → k ≠ 2#2 → k = 3#2 := by decide
  have ci := cover i
  have cj := cover j
  unfold State.setImgByte State.imgByte
  split_ifs <;> first | rfl | (exfalso; simp_all)

/-! ### The sense environment -/

/-- Everything consuming `n` readings does. -/
theorem consumeReadings_eq (n : Nat) (s : State) :
    consumeReadings n s =
      { s with sense := s.sense.drop n, senseDraws := s.senseDraws + (n - s.sense.length) } := by
  induction n generalizing s with
  | zero => simp [consumeReadings]
  | succ n ih =>
    rw [consumeReadings, ih, consumeReading]
    split
    · next h => simp [h]
    · next h => simp [h]; omega

/-- Consuming readings and emitting an event may be exchanged. -/
theorem consumeReadings_emit (n : Nat) (e : Event) (s : State) :
    consumeReadings n (emit e s) = emit e (consumeReadings n s) := by
  simp [consumeReadings_eq, emit]

/-- The readings ahead do not depend on the events out. -/
theorem upcoming_emit (n : Nat) (e : Event) (s : State) : upcoming n (emit e s) = upcoming n s := by
  induction n generalizing s with
  | zero => rfl
  | succ n ih =>
    have h : consumeReading (emit e s) = emit e (consumeReading s) := by
      simp only [consumeReading, emit]; split <;> simp_all
    simp only [upcoming, h, ih]
    rfl

/-- As many readings are ahead as are asked for. -/
theorem upcoming_length (n : Nat) (s : State) : (upcoming n s).length = n := by
  induction n generalizing s with
  | zero => rfl
  | succ n ih => simp [upcoming, ih]

/-- The readings ahead are the listed ones, in order, as far as they go. -/
theorem upcoming_of_listed {n : Nat} {s : State} (h : n ≤ s.sense.length) : upcoming n s = s.sense.take n := by
  induction n generalizing s with
  | zero => simp [upcoming]
  | succ n ih =>
    rcases hs : s.sense with _ | ⟨x, xs⟩
    · simp [hs] at h
    · have h2 : (consumeReading s).sense = xs := by simp [consumeReading, hs]
      rw [upcoming, ih (by rw [h2]; simp [hs] at h; exact h), h2]
      simp [nextReading, hs]

end Sys2Proof.Laws
end

