-- ==== Sys2Proof/Laws/PerInstr.lean ====
section
/-! SUPPORT. Statements made once per command: a fact about its encoding. -/

namespace Sys2Proof.Laws

/-- The command's word matches the command's own row of the opcode table (R59, R70). -/
def MatchesOwnRow.Statement (i : Instr) : Prop :=
  ∃ r, opcodeTable[i.rowIndex.val]? = some r ∧ r.matchesWord (encode i) = true

theorem MatchesOwnRow.nop : MatchesOwnRow.Statement .nop := ⟨_, rfl, rfl⟩

theorem MatchesOwnRow.reset : MatchesOwnRow.Statement .reset := ⟨_, rfl, rfl⟩

theorem MatchesOwnRow.start : MatchesOwnRow.Statement .start := ⟨_, rfl, rfl⟩

theorem MatchesOwnRow.tick : MatchesOwnRow.Statement .tick := ⟨_, rfl, rfl⟩

theorem MatchesOwnRow.wrmode (m : FeatureMode) : MatchesOwnRow.Statement (.wrmode m) :=
  ⟨_, rfl, by cases m <;> rfl⟩

/-- A word under a mask that covers none of the bits of `v`, beside the row's match. -/
theorem matches_or {row v mask : Word} (h : row &&& mask = row) (hv : v &&& mask = 0#32) :
    ((row ||| v) &&& mask == row) = true := by
  rw [BitVec.and_or_distrib_right, h, hv]; simp

/-- A 16-bit operand lies outside the mask of a 16-bit row. -/
theorem raw_and_mask (n : Half) : n.setWidth 32 &&& 0xFFFF0000#32 = 0#32 := by
  have h : n.setWidth 32 = 0#16 ++ n := by simp [BitVec.setWidth_eq_append]
  rw [h, show 0xFFFF0000#32 = 0xFFFF#16 ++ 0x0000#16 from rfl, BitVec.and_append]
  simp

/-- A byte operand lies outside the mask of a byte row. -/
theorem byte_and_mask (b : Byte) : b.setWidth 32 &&& 0xFFFFFF00#32 = 0#32 := by
  have h : b.setWidth 32 = 0#24 ++ b := by simp [BitVec.setWidth_eq_append]
  rw [h, show 0xFFFFFF00#32 = 0xFFFFFF#24 ++ 0x00#8 from rfl, BitVec.and_append]
  simp

theorem MatchesOwnRow.wron (n : Half) : MatchesOwnRow.Statement (.wron n) :=
  ⟨_, rfl, matches_or rfl (raw_and_mask n)⟩

theorem MatchesOwnRow.wroff (n : Half) : MatchesOwnRow.Statement (.wroff n) :=
  ⟨_, rfl, matches_or rfl (raw_and_mask n)⟩

theorem MatchesOwnRow.wrthr (n : Half) : MatchesOwnRow.Statement (.wrthr n) :=
  ⟨_, rfl, matches_or rfl (raw_and_mask n)⟩

theorem MatchesOwnRow.wrmag (b : Byte) : MatchesOwnRow.Statement (.wrmag b) :=
  ⟨_, rfl, matches_or rfl (byte_and_mask b)⟩

/-- WRFAC's index lies outside the mask of its row. -/
theorem idx_and_mask (i : BitVec 2) : i.setWidth 32 <<< 24 &&& 0xFCFFFF00#32 = 0#32 := by
  revert i; decide

theorem MatchesOwnRow.wrfac (i : BitVec 2) (b : Byte) : MatchesOwnRow.Statement (.wrfac i b) := by
  refine ⟨_, rfl, ?_⟩
  have hb : b.setWidth 32 &&& 0xFCFFFF00#32 = 0#32 := by
    rw [show 0xFCFFFF00#32 = 0xFFFFFF00#32 &&& 0xFCFFFF00#32 from rfl, ← BitVec.and_assoc, byte_and_mask]; simp
  have hv : (i.setWidth 32 <<< 24 ||| b.setWidth 32) &&& 0xFCFFFF00#32 = 0#32 := by
    rw [BitVec.and_or_distrib_right, idx_and_mask, hb]; simp
  have := matches_or (row := 0x20000000#32) (mask := 0xFCFFFF00#32) rfl hv
  rw [← BitVec.or_assoc] at this
  exact this

end Sys2Proof.Laws
end

