-- ==== Sys2Proof/Laws/Step.lean ====
section
/-! SUPPORT. What one step can do, once. -/

namespace Sys2Proof.Laws

open Sys2Proof.Machine Sys2Proof.Safety

@[simp] theorem mapNext_next (f : State → State) (t : State) : mapNext f (.next t) = .next (f t) := rfl

/-- A word either decodes, and then the command runs, or is illegal, and then nothing happens. -/
theorem execWord_cases (w : Word) (s : State) :
    (∃ i, decode w = .command i ∧ execWord w s = exec i s) ∨
    (∃ why, decode w = .illegal why ∧ execWord w s = .next s) := by
  unfold execWord
  cases h : decode w with
  | command i => exact .inl ⟨i, rfl, rfl⟩
  | illegal why => exact .inr ⟨why, rfl, rfl⟩

/-- The step of a state whose host does nothing. -/
theorem step_idle {s : State} (h : s.host = []) : step s = .next (beginStep s) := by
  simp [step, runNextInput, h]

/-- The step of a state whose host acts. -/
theorem step_input {s : State} {x : HostInput} {rest : List HostInput} (h : s.host = x :: rest) :
    step s = runInput x { beginStep s with host := rest } := by
  simp [step, runNextInput, h]

/-- Playing events appends them, and writes neither the parameters nor the host. -/
theorem foldl_playEvent (l : List Event) (s : State) :
    (l.foldl playEvent s).events = s.events ++ l ∧ (l.foldl playEvent s).openParams = s.openParams ∧
      (l.foldl playEvent s).host = s.host := by
  induction l generalizing s with
  | nil => simp
  | cons e l ih =>
    rw [List.foldl_cons, (ih _).1, (ih _).2.1, (ih _).2.2]
    cases e <;> simp [playEvent, emit, consumeReading]
    split <;> exact ⟨rfl, rfl, rfl⟩

/-- Playing events leaves the outputs as the events say (R14). -/
theorem foldl_playEvent_outputs (l : List Event) (s : State) :
    (l.foldl playEvent s).load = loadAfter s.load l ∧ (l.foldl playEvent s).senseEn = senseEnAfter s.senseEn l := by
  induction l generalizing s with
  | nil => exact ⟨rfl, rfl⟩
  | cons e l ih =>
    rw [List.foldl_cons, (ih _).1, (ih _).2]
    cases e <;> simp [playEvent, emit, consumeReading, loadAfter, senseEnAfter]
    split <;> exact ⟨rfl, rfl⟩

/-- Every step is one command from the begun state, but for the data of a status read, or a reset. (An idle step, a status
read and an ILLEGAL word change what NOP changes.) -/
theorem step_cases {s t : State} (h : step s = .next t) :
    (∃ i u, exec i { s with host := s.host.tail, events := [], readData := none } = .next u ∧
      t = { u with readData := t.readData }) ∨
    (∃ u, u.openParams = s.openParams ∧ u.host = s.host.tail ∧ t = applyReset u) := by
  rcases hh : s.host with _ | ⟨x, rest⟩
  · rw [step_idle hh] at h
    injection h with h
    subst h
    exact .inl ⟨.nop, _, rfl, by simp [beginStep, hh]⟩
  · rw [step_input hh] at h
    have run : ∀ w u, execWord w { beginStep s with host := rest } = .next u →
        ∃ i, exec i { beginStep s with host := rest } = .next u := by
      intro w u hu
      obtain ⟨i, _, e⟩ | ⟨why, _, e⟩ := execWord_cases w { beginStep s with host := rest }
      · exact ⟨i, e.symm.trans hu⟩
      · exact ⟨.nop, e.symm.trans hu⟩
    cases x with
    | command w =>
      obtain ⟨i, hi⟩ := run w t h
      exact .inl ⟨i, t, hi, rfl⟩
    | statusRead a =>
      injection h with h
      subst h
      exact .inl ⟨.nop, _, rfl, rfl⟩
    | commandStatusRead w a seen =>
      simp only [runInput] at h
      rcases hw : execWord w { beginStep s with host := rest } with u | r | r <;> rw [hw] at h <;> try cases h
      obtain ⟨i, hi⟩ := run w u hw
      exact .inl ⟨i, u, hi, rfl⟩
    | resetInput =>
      injection h with h
      exact .inr ⟨{ beginStep s with host := rest }, rfl, rfl, h.symm⟩
    | commandReset w n =>
      simp only [runInput] at h
      rcases hw : execWord w { beginStep s with host := rest } with u | r | r <;> rw [hw] at h <;> try cases h
      exact .inr ⟨(((u.events.drop (beginStep s).events.length).take n).foldl playEvent { beginStep s with host := rest }),
        (foldl_playEvent _ _).2.1, (foldl_playEvent _ _).2.2, rfl⟩
    | powerOn =>
      injection h with h
      exact .inr ⟨{ beginStep s with host := rest }, rfl, rfl, h.symm⟩

end Sys2Proof.Laws
end

