-- ==== Sys2Proof/Laws/Tick.lean ====
section
/-! SUPPORT. The sampling window without its loop (R95, R96), and the cases of the closed forms of a TICK. -/

namespace Sys2Proof.Laws

open Sys2Proof.Machine Sys2Proof.Safety

/-- Everything the reading loop does: it adds the readings ahead to the sum, consumes them and emits one READ for each, in
order. -/
theorem sampleLoop_eq (n sum : Nat) (s : State) :
    sampleLoop n sum s =
      (sum + ((upcoming n s).map BitVec.toNat).sum,
        { consumeReadings n s with events := s.events ++ (upcoming n s).map Event.read }) := by
  induction n generalizing sum s with
  | zero => simp [sampleLoop, upcoming, consumeReadings]
  | succ n ih =>
    simp only [sampleLoop, ih, upcoming, upcoming_emit, consumeReadings_emit, consumeReadings]
    ext1
    · simp [Nat.add_assoc]
    · simp [emit]

/-- The shift of the averager is a floor division by SAMPLE_COUNT (R96). -/
theorem average_eq (sum : Nat) : average sum = sum / Config.sampleCount := by
  simp [average, Config.sampleCount, Nat.shiftRight_eq_div_pow]

/-- Everything a sample does: the mean of the readings ahead, the readings consumed, the window's events out, the enable
released. -/
theorem sample_eq (s : State) :
    sample s = (readingMean s,
      { consumeReadings Config.sampleCount s with senseEn := false, events := s.events ++ windowEvents s }) := by
  have up : ∀ n, upcoming n { s with senseEn := true } = upcoming n s := by
    intro n
    suffices h : ∀ (n : Nat) (s : State), upcoming n { s with senseEn := true } = upcoming n s from h n s
    clear n
    intro n
    induction n with
    | zero => intro s; rfl
    | succ n ih =>
      intro s
      have h : consumeReading { s with senseEn := true } = { consumeReading s with senseEn := true } := by
        simp only [consumeReading]; split <;> simp_all
      simp only [upcoming, h, ih]
      rfl
  simp only [sample, sampleLoop_eq, upcoming_emit, up, consumeReadings_emit, average_eq, readingMean, readingSum]
  ext1
  · simp
  · simp [emit, consumeReadings_eq, windowEvents]

/-- The four things the monitor's part of a TICK can be (R93, R94, R97). -/
theorem monitorOutcome_cases (s : State) :
    (s.load = false ∧ monitorOutcome s = s) ∨
    (s.load = true ∧ ¬ Boundary s ∧ monitorOutcome s = { s with vcnt := s.vcnt + 1#32 }) ∨
    (s.load = true ∧ Boundary s ∧ readingMean s < s.thr.toNat ∧ monitorOutcome s =
      { afterWindow s with load := false, latch := true, events := s.events ++ windowEvents s ++ [.loadOff] }) ∨
    (s.load = true ∧ Boundary s ∧ ¬ readingMean s < s.thr.toNat ∧ monitorOutcome s = afterWindow s) := by
  unfold monitorOutcome
  by_cases a : s.load = false
  · exact .inl ⟨a, if_pos a⟩
  · have on : s.load = true := by simpa using a
    rw [if_neg a]
    by_cases b : Boundary s
    · rw [if_neg (not_not.2 b)]
      by_cases c : readingMean s < s.thr.toNat
      · exact .inr (.inr (.inl ⟨on, b, c, if_pos c⟩))
      · exact .inr (.inr (.inr ⟨on, b, c, if_neg c⟩))
    · exact .inr (.inl ⟨on, b, if_pos b⟩)

/-- The six things the state machine's part of a TICK can be: nothing, where it is gated off; a transition or a count in the
ON state; the same in the OFF state; a recovery (R99–R103). -/
theorem dutyOutcome_cases (s : State) :
    ((s.mode = .protectionOnly ∨ s.latch = true) ∧ dutyOutcome s = s) ∨
    (s.mode = .fullFeature ∧ s.latch = false ∧
      ((s.duty = dutyOn ∧ s.onCnt.toNat ≤ (s.dcnt.toNat + 1) % 2 ^ 32 ∧ dutyOutcome s =
          { s with duty := dutyOff, dcnt := 0#32, load := false, events := s.events ++ if s.load then [.loadOff] else [] }) ∨
        (s.duty = dutyOn ∧ ¬ s.onCnt.toNat ≤ (s.dcnt.toNat + 1) % 2 ^ 32 ∧
          dutyOutcome s = { s with dcnt := s.dcnt + 1#32 }) ∨
        (s.duty = dutyOff ∧ s.offCnt.toNat ≤ (s.dcnt.toNat + 1) % 2 ^ 32 ∧ dutyOutcome s =
          { s with duty := dutyOn, dcnt := 0#32, load := true, events := s.events ++ if s.load then [] else [.loadOn] }) ∨
        (s.duty = dutyOff ∧ ¬ s.offCnt.toNat ≤ (s.dcnt.toNat + 1) % 2 ^ 32 ∧
          dutyOutcome s = { s with dcnt := s.dcnt + 1#32 }) ∨
        (s.duty ≠ dutyOn ∧ s.duty ≠ dutyOff ∧ dutyOutcome s =
          { s with duty := dutyOff, dcnt := 0#32, load := false,
                   events := s.events ++ if s.load then [.loadOff] else [] }))) := by
  unfold dutyOutcome
  by_cases gated : s.mode = .protectionOnly ∨ s.latch = true
  · exact .inl ⟨gated, if_pos gated⟩
  · have full : s.mode = .fullFeature := by cases h : s.mode <;> simp_all
    have free : s.latch = false := by simp_all
    have ne : dutyOff ≠ dutyOn := by decide
    rw [if_neg gated]
    refine .inr ⟨full, free, ?_⟩
    by_cases on : s.duty = dutyOn
    · rw [if_pos on]
      by_cases b : s.onCnt.toNat ≤ (s.dcnt.toNat + 1) % 2 ^ 32
      · exact .inl ⟨on, b, if_pos b⟩
      · exact .inr (.inl ⟨on, b, if_neg b⟩)
    · rw [if_neg on]
      by_cases off : s.duty = dutyOff
      · rw [if_pos off]
        by_cases b : s.offCnt.toNat ≤ (s.dcnt.toNat + 1) % 2 ^ 32
        · exact .inr (.inr (.inl ⟨off, b, if_pos b⟩))
        · exact .inr (.inr (.inr (.inl ⟨off, b, if_neg b⟩)))
      · exact .inr (.inr (.inr (.inr ⟨on, off, if_neg off⟩)))

end Sys2Proof.Laws
end

