-- ==== Sys2Proof/Tests/Slice0.lean ====
section
/-! SUPPORT. Tests. Expected values are those of spec/95_test_vectors.md (the vector named in the docstring) or worked out by
hand from the rule named; then one witness of the hypotheses of each statement that has any. The OPEN parameters take the
test profile of R7. -/

namespace Sys2Proof.Tests

open Sys2Proof Sys2Proof.Machine Sys2Proof.Safety

/-! ### Helpers -/

/-- The test profile of R7. -/
abbrev profile : Params := ⟨128000, 12800, 0xA5#8⟩

/-- The reset state under the test profile. -/
abbrev fresh : State := { State.reset with openParams := some profile }

/-- The state of a next-state outcome. -/
def after : Result → State
  | .next t => t
  | .fault _ => State.reset
  | .refused _ => State.reset

/-- The state of P1 and P2 after START. -/
abbrev booted : State :=
  { fresh with
    phase := .run, mode := .fullFeature, rawOn := 7031#16, rawOff := 3516#16, rawThr := 721#16
    onCnt := 7031#32, offCnt := 3516#32, thr := 721#32 }

/-- `booted` just before its first boundary, with one window of readings `x` ahead. -/
abbrev beforeBoundary (x : Reading) : State :=
  { booted with dcnt := 109#32, vcnt := 109#32, sense := List.replicate 32 x }

/-- The OFF state with an off-count of 2. -/
abbrev coolingDown : State := { booted with duty := dutyOff, load := false, offCnt := 2#32, vcnt := 57#32 }

/-- A latched state, as a trip leaves it. -/
abbrev tripped : State := { booted with dcnt := 109#32, latch := true, load := false }

/-! ### WellFormed: an ill-formed line for each check, refused -/

theorem test_illFormed_idx : AsmLine.wellFormed (.wrfac 4 0) = false := by decide
theorem test_illFormed_byte : AsmLine.wellFormed (.wrfac 0 256) = false ∧ AsmLine.wellFormed (.wrmag 256) = false := by decide
theorem test_illFormed_raw :
    AsmLine.wellFormed (.wron 65536) = false ∧ AsmLine.wellFormed (.wroff 65536) = false ∧
      AsmLine.wellFormed (.wrthr 65536) = false := by decide
theorem test_illFormed_mode : AsmLine.wellFormed (.wrmode (.number 2)) = false := by decide
theorem test_illFormed_factor :
    AsmLine.wellFormed (.ldcal (2 ^ 32) 0) = false ∧ AsmLine.wellFormed (.ldcal 0 256) = false := by decide
theorem test_illFormed_config :
    AsmLine.wellFormed (.config 65536 0 0 .full) = false ∧ AsmLine.wellFormed (.config 0 65536 0 .full) = false ∧
      AsmLine.wellFormed (.config 0 0 65536 .full) = false ∧ AsmLine.wellFormed (.config 0 0 0 (.number 2)) = false := by
  decide
theorem test_illFormed_boot :
    AsmLine.wellFormed (.boot 0 0 65536 .prot) = false ∧
      AsmLine.wellFormed (.bootCal 0 0 0 .prot (2 ^ 32) 0) = false ∧
      AsmLine.wellFormed (.bootCal 0 0 0 .prot 0 256) = false := by decide
theorem test_illFormed_word : AsmLine.wellFormed (.word (2 ^ 32)) = false := by decide
theorem test_wellFormed_edges :
    AsmLine.wellFormed (.wrfac 3 255) = true ∧ AsmLine.wellFormed (.wron 65535) = true ∧
      AsmLine.wellFormed (.wrmode (.number 1)) = true ∧ AsmLine.wellFormed (.word (2 ^ 32 - 1)) = true := by decide

/-! ### Decode: words written out from the encoding table (95_test_vectors 2.1) -/

/-- V-ENC-1. -/
theorem test_decode_nop : decode 0x00000000#32 = .command .nop := by decide
/-- V-ENC-2. -/
theorem test_decode_reset : decode 0x10000000#32 = .command .reset := by decide
/-- V-ENC-3: idx in bits 25:24. -/
theorem test_decode_wrfac : decode 0x220000C2#32 = .command (.wrfac 2#2 0xC2#8) := by decide
/-- V-ENC-4. -/
theorem test_decode_wrmag : decode 0x300000A5#32 = .command (.wrmag 0xA5#8) := by decide
/-- V-ENC-5, V-ENC-12. -/
theorem test_decode_wron :
    decode 0x40001B77#32 = .command (.wron 7031#16) ∧ decode 0x4000FFFF#32 = .command (.wron 65535#16) := by decide
/-- V-ENC-6. -/
theorem test_decode_wroff : decode 0x50000DBC#32 = .command (.wroff 3516#16) := by decide
/-- V-ENC-7. -/
theorem test_decode_wrthr : decode 0x600002D1#32 = .command (.wrthr 721#16) := by decide
/-- V-ENC-8, V-ENC-9. -/
theorem test_decode_wrmode :
    decode 0x70000001#32 = .command (.wrmode .fullFeature) ∧ decode 0x70000000#32 = .command (.wrmode .protectionOnly) := by
  decide
/-- V-ENC-10. -/
theorem test_decode_start : decode 0x80000000#32 = .command .start := by decide
/-- V-ENC-11. -/
theorem test_decode_tick : decode 0x90000000#32 = .command .tick := by decide

/-- V-ENC-14, V-ENC-15. -/
theorem test_decode_unassigned :
    decode 0xA0000000#32 = .illegal .unassignedOp ∧ decode 0xB0000000#32 = .illegal .unassignedOp ∧
      decode 0xF0000000#32 = .illegal .unassignedOp := by decide
/-- V-ENC-16. -/
theorem test_decode_addr : decode 0x24000000#32 = .illegal .addrNotZero := by decide
/-- V-ENC-13 (its bit is in RSV, assumption log 10), V-ENC-17, V-ENC-20. -/
theorem test_decode_rsv :
    decode 0x40010000#32 = .illegal .rsvNotZero ∧ decode 0x20FF0000#32 = .illegal .rsvNotZero ∧
      decode 0x30010000#32 = .illegal .rsvNotZero := by decide
/-- V-ENC-18, V-ENC-19, V-ENC-21. -/
theorem test_decode_data :
    decode 0x2300FFFF#32 = .illegal .dataNotZero ∧ decode 0x21000100#32 = .illegal .dataNotZero ∧
      decode 0x70000002#32 = .illegal .dataNotZero := by decide
/-- V-ENC-22. -/
theorem test_decode_fixedWords :
    decode 0x00000001#32 = .illegal .dataNotZero ∧ decode 0x10000001#32 = .illegal .dataNotZero ∧
      decode 0x80000001#32 = .illegal .dataNotZero ∧ decode 0x90000001#32 = .illegal .dataNotZero := by decide

/-- R56, R59: the table's 32 bits, and no command of another length. -/
theorem test_decodeTableWord :
    decodeTableWord 32 0x220000C2 = some (.wrfac 2#2 0xC2#8) ∧ decodeTableWord 32 0xA0000000 = none ∧
      decodeTableWord 64 0x90000000 = none := by decide

/-! ### Assembler (95_test_vectors 2.1, R65 to R72) -/

/-- The expansion of `LDCAL 0x0001C200, 0xA5`. -/
theorem test_ldcal :
    assemble (.ldcal 0x0001C200 0xA5) =
      some [0x20000000#32, 0x21000001#32, 0x220000C2#32, 0x23000000#32, 0x300000A5#32] := by decide
/-- The expansion of `CONFIG 7031, 3516, 721, FULL`. -/
theorem test_config :
    assemble (.config 7031 3516 721 .full) = some [0x40001B77#32, 0x50000DBC#32, 0x600002D1#32, 0x70000001#32] := by decide
/-- `TICKS 3` and `TICKS 0`. -/
theorem test_ticks :
    assemble (.ticks 3) = some [0x90000000#32, 0x90000000#32, 0x90000000#32] ∧ assemble (.ticks 0) = some [] := by decide
/-- The words of V-DUTY-1. -/
theorem test_boot :
    assemble (.boot 3 2 0 .full) =
      some [0x10000000#32, 0x40000003#32, 0x50000002#32, 0x60000000#32, 0x70000001#32, 0x80000000#32] := by decide
/-- The assembly errors of R71, and a raw word. -/
theorem test_assemblyErrors :
    assemble (.wrfac 4 0) = none ∧ assemble (.wrmag 256) = none ∧ assemble (.wron 65536) = none ∧
      assemble (.wrmode (.number 2)) = none ∧ assemble (.word 0xA0000000) = some [0xA0000000#32] := by decide
/-- R65, R66: a line of source with hexadecimal numbers and a comment. -/
theorem test_parseLine :
    parseLine "LDCAL 0x0001C200, 0xA5 ; P3".toList = some (some (.ldcal 0x0001C200 0xA5)) ∧
      parseLine "WRMODE FULL".toList = some (some (.wrmode .full)) ∧ parseLine "; nothing".toList = some none := by decide
/-- R72: the listing of P3's second line. -/
theorem test_listing : listing (.wrfac 2 0xC2) = some ["220000C2  WRFAC 2, 0xC2"] := by decide

/-! ### Ports -/

/-- V-STS-1, V-STS-2, V-STS-4, V-STS-11. -/
theorem test_status :
    State.reset.statusData 0x0#4 = 0x00000005#32 ∧ booted.statusData 0x0#4 = 0x00000035#32 ∧
      tripped.statusData 0x0#4 = 0x00000036#32 ∧ tripped.statusData 0xC#4 = 0#32 := by decide
/-- A word placed for the fetch runs on the next step (V-CFG-1). -/
theorem test_step_fetches : step (fresh.withFetchWord 32 0x40001B77) = .next { fresh with rawOn := 7031#16 } := rfl
/-- V-ILL-2: the word is taken and nothing else changes. -/
theorem test_step_illegal : step (fresh.withFetchWord 32 0x40010000) = .next fresh := rfl
/-- R132: the reset input while a tripping TICK executes, after its SENSE_ON and two readings. -/
theorem test_step_commandReset :
    (after (step { beforeBoundary 700#10 with host := [.commandReset 0x90000000#32 3] })).events =
      [.senseOn, .read 700#10, .read 700#10, .senseOff] := by decide
/-- R140: STATUS read while START executes, PHASE seen after and the rest before. -/
theorem test_step_statusDuring :
    (after (step { fresh with host := [.commandStatusRead 0x80000000#32 0x0#4 [.phase]] })).readData =
      some 0x00000015#32 := by decide

/-! ### Commands -/

/-- V-NOP-1. -/
theorem test_nop : exec .nop tripped = .next tripped := rfl
/-- V-RST-2: a latched block emits LOAD_ON. -/
theorem test_reset_latched : exec .reset tripped = .next { fresh with events := [.loadOn] } := rfl
/-- V-RST-3. -/
theorem test_reset_running : exec .reset booted = .next fresh := rfl
/-- V-IMG-2's third byte; V-IMG-6. -/
theorem test_wrfac :
    exec (.wrfac 2#2 0xC2#8) fresh = .next { fresh with img2 := 0xC2#8 } ∧
      exec (.wrfac 2#2 0xC2#8) booted = .next booted := ⟨rfl, rfl⟩
/-- R80. -/
theorem test_wrmag : exec (.wrmag 0xA5#8) fresh = .next { fresh with img4 := 0xA5#8 } := rfl
/-- V-CFG-1, V-CFG-6. -/
theorem test_wron :
    exec (.wron 7031#16) fresh = .next { fresh with rawOn := 7031#16 } ∧ exec (.wron 1#16) booted = .next booted := ⟨rfl, rfl⟩
/-- V-CFG-2. -/
theorem test_wroff : exec (.wroff 3516#16) fresh = .next { fresh with rawOff := 3516#16 } := rfl
/-- V-CFG-3. -/
theorem test_wrthr : exec (.wrthr 721#16) fresh = .next { fresh with rawThr := 721#16 } := rfl
/-- V-CFG-4, V-CFG-7. -/
theorem test_wrmode :
    exec (.wrmode .fullFeature) fresh = .next { fresh with mode := .fullFeature } ∧
      exec (.wrmode .protectionOnly) booted = .next booted := ⟨rfl, rfl⟩
/-- V-START-1. -/
theorem test_start_reset : exec .start fresh = .next { fresh with phase := .run } := rfl
/-- V-START-2 and V-STS-8. -/
theorem test_start_calibrated :
    let s := { fresh with rawOn := 10#16, rawOff := 5#16, rawThr := 721#16, img1 := 0x01#8, img2 := 0xC2#8, img4 := 0xA5#8 }
    exec .start s = .next { s with
      phase := .run, calF := 115200#32, calV := true, onCnt := 9#32, offCnt := 4#32, thr := 648#32 } := rfl

/-- V-CAL-2, V-CAL-3, V-CAL-4, V-CAL-5, V-CAL-6, V-CAL-8, V-CAL-10, V-CAL-11. -/
theorem test_calibrate :
    calibrate profile true 115200#32 7031#16 = 6327#32 ∧ calibrate profile true 140800#32 7031#16 = 7734#32 ∧
      calibrate profile true 115199#32 7031#16 = 7031#32 ∧ calibrate profile true 140801#32 7031#16 = 7031#32 ∧
      calibrate profile false 128000#32 7031#16 = 7031#32 ∧ calibrate profile true 140800#32 65535#16 = 72088#32 ∧
      calibrate profile true 0xFFFFFFFF#32 7031#16 = 7031#32 ∧ calibrate profile true 127999#32 1#16 = 0#32 := by decide

/-- V-AVG-2, V-AVG-4, V-AVG-8, V-AVG-10. -/
theorem test_average : average 22431 = 700 ∧ average 16368 = 511 ∧ average 31 = 0 ∧ average 32 = 1 := by decide
/-- V-CMP-1 to V-CMP-6. -/
theorem test_trips :
    trips 700 721#32 = true ∧ trips 720 721#32 = true ∧ trips 721 721#32 = false ∧ trips 800 721#32 = false ∧
      trips 0 0#32 = false ∧ trips 1023 1024#32 = true := by decide

/-- 95_test_vectors 2.6: a boundary tick with threshold 721 trips with readings 700, and does not with readings 800. -/
theorem test_tick_boundary :
    exec .tick (beforeBoundary 700#10) =
        .next { tripped with events := .senseOn :: (List.replicate 32 (.read 700#10) ++ [.senseOff, .loadOff]) } ∧
      exec .tick (beforeBoundary 800#10) =
        .next { booted with
          dcnt := 110#32, events := .senseOn :: (List.replicate 32 (.read 800#10) ++ [.senseOff]) } := ⟨rfl, rfl⟩
/-- V-DUTY-3, V-DUTY-5, V-DUTY-7 (transitions), V-DUTY-8, V-DUTY-9, V-DUTY-10 (unrecognized states). -/
theorem test_tick_stateMachine :
    exec .tick { booted with dcnt := 2#32, onCnt := 3#32 } =
        .next { booted with duty := dutyOff, load := false, onCnt := 3#32, vcnt := 1#32, events := [.loadOff] } ∧
      exec .tick { coolingDown with dcnt := 1#32 } =
        .next { coolingDown with duty := dutyOn, load := true, events := [.loadOn] } ∧
      exec .tick { booted with onCnt := 0#32 } =
        .next { booted with duty := dutyOff, load := false, onCnt := 0#32, vcnt := 1#32, events := [.loadOff] } ∧
      exec .tick { booted with duty := 0b00#2, dcnt := 7#32 } =
        .next { booted with duty := dutyOff, load := false, vcnt := 1#32, events := [.loadOff] } ∧
      exec .tick { booted with duty := 0b11#2, dcnt := 7#32, load := false } =
        .next { booted with duty := dutyOff, load := false } ∧
      exec .tick { booted with duty := 0b11#2, dcnt := 7#32, mode := .protectionOnly } =
        .next { booted with duty := 0b11#2, dcnt := 7#32, mode := .protectionOnly, vcnt := 1#32 } :=
  ⟨rfl, rfl, rfl, rfl, rfl, rfl⟩

/-! ### Witnesses: the hypotheses of each statement, met together, clause by clause, at the ends of their ranges -/

theorem witness_DecodeAcceptsOnlyEncodedWords : decode 0x4000FFFF#32 = .command (.wron 65535#16) := by decide

theorem witness_DecodeFollowsDisjointOpcodeTable :
    (∃ r ∈ opcodeTable, ∃ q ∈ opcodeTable,
      0x230000FF#32 &&& r.mask = r.matchBits ∧ 0x230000FF#32 &&& q.mask = q.matchBits) ∧
    decode 0x230000FF#32 = .command (.wrfac 3#2 255#8) :=
  ⟨⟨opcodeTable[2], by simp [opcodeTable], opcodeTable[2], by simp [opcodeTable], by decide⟩, by decide⟩

theorem witness_OperandsAreTheirWordFields :
    decode 0x230000FF#32 = .command (.wrfac 3#2 255#8) ∧ decode 0x300000FF#32 = .command (.wrmag 255#8) ∧
    decode 0x4000FFFF#32 = .command (.wron 65535#16) ∧ decode 0x5000FFFF#32 = .command (.wroff 65535#16) ∧
    decode 0x6000FFFF#32 = .command (.wrthr 65535#16) ∧ decode 0x70000001#32 = .command (.wrmode .fullFeature) := by decide

theorem witness_IllegalWordsAreExactlyTheListedOnes :
    decode 0xF0000000#32 = .illegal .unassignedOp ∧ decode 0x24000000#32 = .illegal .addrNotZero ∧
    decode 0x00010000#32 = .illegal .rsvNotZero ∧ decode 0x70000002#32 = .illegal .dataNotZero := by decide

/-- The first value out of each range, and the last one in it. -/
theorem witness_AssemblerRejectsOperandsOutOfRange :
    3 < 4 ∧ 255 < 256 ∧ 65535 < 65536 ∧ (∃ m, AsmMode.number 2 = .number m ∧ 1 < m) ∧
    assemble (.wrfac 3 255) = some [0x230000FF#32] ∧ assemble (.wrmag 255) = some [0x300000FF#32] ∧
    assemble (.wron 65535) = some [0x4000FFFF#32] ∧ assemble (.wroff 65535) = some [0x5000FFFF#32] ∧
    assemble (.wrthr 65535) = some [0x6000FFFF#32] ∧ assemble (.wrmode (.number 1)) = some [0x70000001#32] :=
  ⟨by decide, by decide, by decide, ⟨2, rfl, by decide⟩, by decide⟩

theorem witness_AssemblerRejectsValuesBeyondOneWord :
    2 ^ 32 ≤ 4294967296 ∧ assemble (.word 4294967295) = some [0xFFFFFFFF#32] := by decide

theorem witness_StepRunsTheOfferedCommand :
    let s := { fresh with host := [.command 0x60000400#32, .resetInput] }
    s.host = .command 0x60000400#32 :: [.resetInput] ∧ decode 0x60000400#32 = .command (.wrthr 1024#16) := by decide

theorem witness_StepIgnoresAnIllegalWord :
    let s := { booted with host := [.command 0xFFFFFFFF#32] }
    s.host = .command 0xFFFFFFFF#32 :: [] ∧ decode 0xFFFFFFFF#32 = .illegal .unassignedOp := by decide

theorem witness_IdleStepHoldsTheState : State.reset.host = [] := rfl

theorem witness_StepTakesOneInputAndKeepsParameters :
    step { fresh with host := [.powerOn, .resetInput] } = .next { fresh with host := [.resetInput] } := rfl

theorem witness_StatusReadHasNoSideEffect :
    let s := { booted with host := [.statusRead 0x0#4, .statusRead 0x0#4] }
    s.host = .statusRead 0x0#4 :: .statusRead 0x0#4 :: [] := rfl

theorem witness_StatusPortFollowsItsMap :
    booted.phase = .run ∧ fresh.phase ≠ .run ∧ 12 ≤ (0xC#4 : StatusAddr).toNat ∧ 12 ≤ (0xF#4 : StatusAddr).toNat := by
  decide

/-- A read of one register (0x7), of STATUS while DUTY changes from ON to OFF with PHASE alone seen after the command, and of
IMGF while a byte of the image is reset. -/
theorem witness_StatusReadDuringCommandIsOldOrNew :
    (let s := { fresh with host := [.commandStatusRead 0x4000FFFF#32 0x7#4 []] }
    s.host = .commandStatusRead 0x4000FFFF#32 0x7#4 [] :: [] ∧ (0x7#4 : StatusAddr) ≠ 0x0#4 ∧ (0x7#4 : StatusAddr) ≠ 0xA#4 ∧
    execWord 0x4000FFFF#32 { s with host := [], events := [], readData := none } = .next { fresh with rawOn := 65535#16 }) ∧
    (let s := { booted with onCnt := 0#32, host := [.commandStatusRead 0x90000000#32 0x0#4 [.phase]] }
    s.duty = dutyOn ∧ (after (execWord 0x90000000#32 { s with host := [], events := [], readData := none })).duty = dutyOff) ∧
    (let s := { fresh with img3 := 0xFF#8, host := [.commandStatusRead 0x10000000#32 0xA#4 [.img3]] }
    (after (execWord 0x10000000#32 { s with host := [], events := [], readData := none })).img3 = 0x00#8) :=
  ⟨⟨rfl, by decide, by decide, rfl⟩, ⟨rfl, rfl⟩, rfl⟩

theorem witness_ResetCommandRestoresTheResetState :
    tripped.senseEn = false ∧ (tripped.phase = .cfg → tripped.latch = false) ∧ tripped.latch = true ∧
    exec .reset tripped = .next { fresh with events := [.loadOn] } ∧
    ({ fresh with events := [.loadOn] } : State).latch = false :=
  ⟨rfl, fun h => absurd h (by decide), rfl, rfl, rfl⟩

theorem witness_EveryResetSourceRestoresEveryRegister :
    { tripped with host := [.resetInput] }.host = HostInput.resetInput :: [] ∧
    { tripped with host := [.powerOn] }.host = HostInput.powerOn :: [] ∧
    { tripped with host := [.command 0x10000000#32] }.host = HostInput.command 0x10000000#32 :: [] ∧
    { booted with host := [.commandReset 0x90000000#32 34] }.host = HostInput.commandReset 0x90000000#32 34 :: [] :=
  ⟨rfl, rfl, rfl, rfl⟩

theorem witness_AbortedCommandLeavesAPrefixOfItsEvents :
    let s := { beforeBoundary 700#10 with host := [.commandReset 0x90000000#32 35] }
    s.host = .commandReset 0x90000000#32 35 :: [] ∧
    ∃ t, execWord 0x90000000#32 { s with host := [], events := [], readData := none } = .next t ∧
      (loadAfter s.load (t.events.take 35) = false ∧ senseEnAfter s.senseEn (t.events.take 35) = false) ∧
      (loadAfter s.load (t.events.take 34) = true ∧ senseEnAfter s.senseEn (t.events.take 34) = false) ∧
      (loadAfter s.load (t.events.take 33) = true ∧ senseEnAfter s.senseEn (t.events.take 33) = true) ∧
      loadAfter s.load (t.events.take 0) = true ∧ senseEnAfter s.senseEn (t.events.take 0) = false :=
  ⟨rfl, _, rfl, by decide⟩

theorem witness_OutputChangesOutsideReachableStatesEmitEvents :
    { fresh with senseEn := true }.senseEn = true ∧ { fresh with load := false }.phase = .cfg ∧
    { fresh with load := false }.load = false := by decide

theorem witness_WrfacWritesOneFactorByte :
    fresh.phase = .cfg ∧ booted.phase = .run ∧
    exec (.wrfac 3#2 255#8) fresh = .next { fresh with img3 := 255#8 } ∧
    (0x24000000#32).toNat / 2 ^ 28 = 2 ∧ 4 ≤ (0x24000000#32).toNat / 2 ^ 24 % 16 ∧
    (0x2F000000#32).toNat / 2 ^ 28 = 2 ∧ 4 ≤ (0x2F000000#32).toNat / 2 ^ 24 % 16 :=
  ⟨rfl, rfl, rfl, by decide⟩

theorem witness_WrmagWritesTheMagicByte :
    fresh.phase = .cfg ∧ booted.phase = .run ∧ exec (.wrmag 255#8) fresh = .next { fresh with img4 := 255#8 } :=
  ⟨rfl, rfl, rfl⟩

theorem witness_RawConfigurationWrites : fresh.phase = .cfg ∧ booted.phase = .run := ⟨rfl, rfl⟩

theorem witness_WrmodeWritesFeatureMode :
    fresh.phase = .cfg ∧ booted.phase = .run ∧ exec .reset booted = .next fresh ∧
    exec .start fresh = .next { fresh with phase := .run } ∧
    (Instr.wron 5#16 ≠ .reset ∧ (∀ m, Instr.wron 5#16 ≠ .wrmode m) ∧
      exec (.wron 5#16) fresh = .next { fresh with rawOn := 5#16 }) ∧
    (∀ m, Instr.wrmode m ∉ [Instr.wron 5#16, .start]) ∧ ∃ t, runCommands [.reset, .wron 5#16, .start] booted = .next t :=
  ⟨rfl, rfl, rfl, rfl, ⟨by decide, fun m => by simp, rfl⟩, fun m => by simp, _, rfl⟩

theorem witness_StartLoadsTheFactorBigEndian :
    let s := { fresh with img1 := 0x01#8, img2 := 0xF4#8 }
    s.phase = .cfg ∧ s.img0 = 0x00#8 ∧ s.img1 = 0x01#8 ∧ s.img2 = 0xF4#8 ∧ s.img3 = 0x00#8 := by decide

/-- The closed band of the test profile is 115200 to 140800, and a tolerance of 0 is legal. -/
theorem witness_CalibrateIsTheExactFloorInBandElseRaw :
    profile.Legal ∧ (⟨1, 0, 0x00#8⟩ : Params).Legal ∧
    ((128000 : Int) - 12800 ≤ 115200 ∧ (115200 : Int) ≤ 128000 + 12800) ∧
    ((128000 : Int) - 12800 ≤ 140800 ∧ (140800 : Int) ≤ 128000 + 12800) ∧
    ¬ ((128000 : Int) - 12800 ≤ 115199 ∧ (115199 : Int) ≤ 128000 + 12800) ∧
    ¬ ((128000 : Int) - 12800 ≤ 140801 ∧ (140801 : Int) ≤ 128000 + 12800) := by decide

theorem witness_CalibratedValueFitsInSeventeenBits : profile.Legal ∧ 0 < (1#16 : Half).toNat := by decide

theorem witness_CalibratorLaws :
    profile.Legal ∧ (65534#16 : Half).toNat ≤ (65535#16 : Half).toNat ∧
    inBand profile 115200#32 = true ∧ (115200#32).toNat ≤ profile.nominalHz ∧
    inBand profile 140800#32 = true ∧ profile.nominalHz ≤ (140800#32).toNat ∧
    (128000#32).toNat = profile.nominalHz := by decide

theorem witness_StartCommitsTheCalibratedConfiguration :
    fresh.phase = .cfg ∧ fresh.load = true ∧ booted.phase = .run ∧ profile.Legal := by decide

theorem witness_ConfigurationWritesCommute :
    writeTarget (.wrfac 0#2 1#8) ≠ none ∧ writeTarget (.wrfac 3#2 1#8) ≠ none ∧
    writeTarget (.wrfac 0#2 1#8) ≠ writeTarget (.wrfac 3#2 1#8) ∧
    (∀ i ∈ [Instr.wron 5#16, .wrmag 1#8, .wron 9#16], writeTarget i ≠ none) ∧
    (∀ i ∈ [Instr.wron 9#16, .wrmag 1#8], writeTarget i ≠ none) ∧
    ∀ r, (writesOf r [.wron 5#16, .wrmag 1#8, .wron 9#16]).getLast? = (writesOf r [.wron 9#16, .wrmag 1#8]).getLast? := by
  refine ⟨by decide, by decide, by decide, by decide, by decide, fun r => ?_⟩
  cases r <;> decide

theorem witness_RepeatedCommandsAreIdempotentButTick :
    writeTarget (.wrmode .fullFeature) ≠ none ∧ writeTarget (.wron 5#16) ≠ none ∧
    writeTarget (.wron 5#16) = writeTarget (.wron 9#16) := by decide

theorem witness_OutOfPhaseCommandsAreIgnored :
    booted.phase = .run ∧ fresh.phase = .cfg ∧ writeTarget (.wrthr 0#16) ≠ none := by decide

theorem witness_RunConfigurationIsConstantUntilReset :
    booted.phase = .run ∧ Instr.wron 1#16 ≠ .reset ∧ exec (.wron 1#16) booted = .next booted ∧ step booted = .next booted :=
  ⟨rfl, by decide, rfl, rfl⟩

theorem witness_RegistersChangeOnlyByTheirWriters :
    (fresh.phase = .cfg → fresh.latch = false) ∧ exec (.wron 5#16) fresh = .next { fresh with rawOn := 5#16 } ∧
    (booted.phase = .cfg → booted.latch = false) ∧
    exec .tick (beforeBoundary 700#10) = .next (after (exec .tick (beforeBoundary 700#10))) ∧
    (after (exec .tick (beforeBoundary 700#10))).latch ≠ (beforeBoundary 700#10).latch :=
  ⟨fun _ => rfl, rfl, fun _ => rfl, rfl, by decide⟩

theorem witness_TickIsMonitorThenStateMachine : booted.phase = .run ∧ fresh.phase = .cfg := ⟨rfl, rfl⟩

theorem witness_MonitorRunsExactlyWhileEnergized :
    (coolingDown.phase = .run ∧ coolingDown.load = false ∧
      exec .tick coolingDown = .next { coolingDown with dcnt := 1#32 }) ∧
    (booted.phase = .run ∧ booted.load = true ∧
      exec .tick booted = .next { booted with dcnt := 1#32, vcnt := 1#32 } ∧
      exec .tick { booted with mode := .protectionOnly } = .next { booted with mode := .protectionOnly, vcnt := 1#32 }) :=
  ⟨⟨rfl, rfl, rfl⟩, rfl, rfl, rfl, rfl⟩

theorem witness_BoundaryTickTakesOneSamplingWindow :
    (beforeBoundary 1023#10).phase = .run ∧ (beforeBoundary 1023#10).load = true ∧ Boundary (beforeBoundary 1023#10) ∧
    (∃ t, exec .tick (beforeBoundary 1023#10) = .next t) ∧ ¬ Boundary { beforeBoundary 1023#10 with vcnt := 108#32 } :=
  ⟨rfl, rfl, by decide, ⟨_, rfl⟩, by decide⟩

/-- An average just below the threshold, one equal to it, a threshold of 0 and one of 1024. -/
theorem witness_SampleTripsExactlyStrictlyBelowThreshold :
    (beforeBoundary 720#10).phase = .run ∧ (beforeBoundary 720#10).load = true ∧ (beforeBoundary 720#10).latch = false ∧
    Boundary (beforeBoundary 720#10) ∧ (after (exec .tick (beforeBoundary 720#10))).latch = true ∧
    (after (exec .tick (beforeBoundary 721#10))).latch = false ∧
    (after (exec .tick { beforeBoundary 0#10 with thr := 0#32 })).latch = false ∧
    (after (exec .tick { beforeBoundary 1023#10 with thr := 1024#32 })).latch = true := by decide

theorem witness_StateMachineRunsExactlyInFullFeatureUnlatched :
    let s := { booted with mode := .protectionOnly }
    (s.phase = .run ∧ s.mode = .protectionOnly ∧ exec .tick s = .next { s with vcnt := 1#32 }) ∧
    (tripped.phase = .run ∧ exec .tick tripped = .next tripped ∧ tripped.latch = true) ∧
    (booted.phase = .run ∧ booted.mode = .fullFeature ∧ (after (exec .tick booted)).latch = false) := by
  exact ⟨⟨rfl, rfl, rfl⟩, ⟨rfl, rfl, rfl⟩, rfl, rfl, rfl⟩

/-- The tick before the on-count, the tick at it, and an on-count of 0. -/
theorem witness_OnStateLeavesAtTheOnCount :
    let s (d c : Word) : State := { booted with dcnt := d, onCnt := c }
    (s 1#32 3#32).phase = .run ∧ (s 1#32 3#32).mode = .fullFeature ∧ (s 1#32 3#32).duty = dutyOn ∧
    (s 1#32 3#32).load = true ∧ (after (exec .tick (s 1#32 3#32))).latch = false ∧ (1 + 1) % 2 ^ 32 < 3 ∧
    (after (exec .tick (s 2#32 3#32))).latch = false ∧ 3 ≤ (2 + 1) % 2 ^ 32 ∧
    (after (exec .tick (s 0#32 0#32))).latch = false ∧ 0 ≤ (0 + 1) % 2 ^ 32 := by decide

/-- The tick before the off-count, and the tick at it. -/
theorem witness_OffStateLeavesAtTheOffCount :
    let s (d : Word) : State := { coolingDown with dcnt := d }
    (s 0#32).phase = .run ∧ (s 0#32).mode = .fullFeature ∧ (s 0#32).duty = dutyOff ∧ (s 0#32).load = false ∧
    (after (exec .tick (s 0#32))).latch = false ∧ (0 + 1) % 2 ^ 32 < 2 ∧
    (after (exec .tick (s 1#32))).latch = false ∧ 2 ≤ (1 + 1) % 2 ^ 32 := by decide

theorem witness_UnrecognizedDutyRecoversToOff :
    let s : State := { booted with duty := 0b00#2, dcnt := 7#32 }
    let off : State := { booted with duty := 0b11#2, load := false }
    s.phase = .run ∧ s.duty ≠ dutyOn ∧ s.duty ≠ dutyOff ∧ s.mode = .fullFeature ∧ s.load = true ∧ s.latch = false ∧
    (after (exec .tick s)).latch = false ∧ ¬ Boundary s ∧
    off.duty ≠ dutyOn ∧ off.duty ≠ dutyOff ∧ off.load = false ∧ (after (exec .tick off)).latch = false ∧
    ({ s with mode := .protectionOnly } : State).mode = .protectionOnly ∧ ({ s with latch := true } : State).latch = true := by
  decide

theorem witness_TickEventsAreOneWindowThenOneLoadEvent :
    (beforeBoundary 700#10).phase = .run ∧ (∃ t, exec .tick (beforeBoundary 700#10) = .next t ∧ t.latch = true) ∧
    (beforeBoundary 700#10).latch = false := ⟨rfl, ⟨_, rfl, rfl⟩, rfl⟩

/-- An average equal to the threshold and one just below it, on the tick of the transition (V-DUTY-12). -/
theorem witness_BoundaryAndTransitionOnOneTick :
    let s (x : Reading) : State := { beforeBoundary x with onCnt := 110#32 }
    (s 721#10).phase = .run ∧ (s 721#10).mode = .fullFeature ∧ (s 721#10).latch = false ∧ (s 721#10).load = true ∧
    (s 721#10).duty = dutyOn ∧ Boundary (s 721#10) ∧ 110 ≤ (109 + 1) % 2 ^ 32 ∧
    721 ≤ readingMean (s 721#10) ∧ readingMean (s 720#10) < 721 := by decide

/-- The start of V-DUTY-1, and of V-DUTY-2 with both counts 0. -/
theorem witness_DutyCycleHasItsPeriods :
    let s (on off : Word) : State := { booted with onCnt := on, offCnt := off, thr := 0#32 }
    (s 3#32 2#32).phase = .run ∧ (s 3#32 2#32).mode = .fullFeature ∧ (s 3#32 2#32).duty = dutyOn ∧
    (s 3#32 2#32).dcnt = 0#32 ∧ (s 3#32 2#32).load = true ∧ (s 3#32 2#32).latch = false ∧
    3 = max (s 3#32 2#32).onCnt.toNat 1 ∧ 2 = max (s 3#32 2#32).offCnt.toNat 1 ∧
    1 = max (s 0#32 0#32).onCnt.toNat 1 ∧
    (after (runCommands (ticks 2) (s 3#32 2#32))).latch = false ∧
    (after (exec .tick (after (runCommands (ticks 2) (s 3#32 2#32))))).latch = false := by decide

/-- The state a protection-only START leaves, its raw threshold 721, `k` ticks on; `n` more ticks are offered. -/
abbrev guarding (k n : Nat) : State :=
  { fresh with
    phase := .run, rawThr := 721#16, thr := 721#32, vcnt := BitVec.ofNat 32 k, sense := List.replicate 32 700#10
    host := List.replicate n (.command 0x90000000#32) }

/-- `guarding` once its first sample has tripped. -/
abbrev guardTripped : State := { guarding 0 0 with sense := [], latch := true, load := false }

/-- One tick short of the boundary counts one tick. -/
theorem guarding_step {k n : Nat} (h : k < 109) : step (guarding k (n + 1)) = .next (guarding (k + 1) n) := by
  have run : ∀ v : Word, v.toNat < 109 → execTick { guarding k n with vcnt := v } =
      .next { guarding k n with vcnt := v + 1#32 } := by
    intro v hv
    have far : atBoundary (v + 1#32) = false := by simp [atBoundary, Config.uvInterval]; omega
    simp [execTick, inPhase, wakeTick, monitorStep, uvAccumulate, far, dutyStep, dutyEnabled, State.reset]
  have small : (BitVec.ofNat 32 k).toNat < 109 := by simp; omega
  have next : BitVec.ofNat 32 k + 1#32 = BitVec.ofNat 32 (k + 1) := by simp [BitVec.ofNat_add]
  exact (run (BitVec.ofNat 32 k) small).trans (by rw [next])

theorem reachable_guarding {k n : Nat} (h : k + n = 110) (hk : k ≤ 109) : Reachable (guarding k n) := by
  induction k generalizing n with
  | zero =>
    obtain rfl : n = 110 := by omega
    have r := Reachable.reset (some profile) (by decide)
      (.command 0x600002D1#32 :: .command 0x80000000#32 :: List.replicate 110 (.command 0x90000000#32))
      (List.replicate 32 700#10) 0
    exact .step _ _ (.step _ _ r rfl) rfl
  | succ k ih => exact .step _ _ (ih (n := n + 1) (by omega) (by omega)) (guarding_step (by omega))

theorem reachable_tripped :
    Reachable { guardTripped with
      events := .senseOn :: (List.replicate 32 (.read 700#10) ++ [.senseOff, .loadOff]) } :=
  .step _ _ (reachable_guarding (k := 109) (n := 1) rfl (Nat.le_refl _)) rfl

/-- The states of P2 before its boundary and of its prefix in ProtectionOnly mode meet the invariant. -/
theorem machineInv_beforeBoundary : MachineInv (beforeBoundary 700#10) where
  params := by decide
  senseOff := rfl
  dutyRecognized := .inl rfl
  loadMirrors := by decide
  dcntOn := by decide
  dcntOff := by decide
  vcntBelow := by decide
  cfgQuiet := fun h => absurd h (by decide)
  committed := fun _ => ⟨by decide, by decide, by decide, by decide, by decide⟩
  protectionOnly := by decide

theorem machineInv_guarding : MachineInv (guarding 109 1) where
  params := by decide
  senseOff := rfl
  dutyRecognized := .inl rfl
  loadMirrors := by decide
  dcntOn := by decide
  dcntOff := by decide
  vcntBelow := by decide
  cfgQuiet := fun h => absurd h (by decide)
  committed := fun _ => ⟨by decide, by decide, by decide, by decide, by decide⟩
  protectionOnly := fun _ => ⟨rfl, rfl⟩

theorem witness_TripCutsLoadAndSuppressesStateMachine :
    (beforeBoundary 700#10).phase = .run ∧ (beforeBoundary 700#10).load = true ∧ Boundary (beforeBoundary 700#10) ∧
    readingMean (beforeBoundary 700#10) < (beforeBoundary 700#10).thr.toNat ∧
    readingMean (beforeBoundary 720#10) < (beforeBoundary 720#10).thr.toNat ∧ MachineInv (beforeBoundary 700#10) :=
  ⟨rfl, rfl, by decide, by decide, by decide, machineInv_beforeBoundary⟩

theorem witness_ProtectionOnlyNeverCyclesTheLoad :
    MachineInv (guarding 109 1) ∧ (guarding 109 1).phase = .run ∧ (guarding 109 1).mode = .protectionOnly ∧
    Instr.reset ∉ [Instr.tick, .wron 1#16] ∧
    ∃ t, runCommands [.tick, .wron 1#16] (guarding 109 1) = .next t ∧ t.latch = true :=
  ⟨machineInv_guarding, rfl, rfl, by decide, _, rfl, rfl⟩

/-- The load off; and the load on with one tick to go and with none, the load staying on. -/
theorem witness_IntervalIsHeldWhileOffAndResumes :
    (coolingDown.phase = .run ∧ coolingDown.load = false ∧ ∃ t, exec .tick coolingDown = .next t) ∧
    let s : State := { booted with vcnt := 108#32 }
    s.phase = .run ∧ s.vcnt.toNat < Config.uvInterval ∧ 1 < Config.uvInterval - s.vcnt.toNat ∧
    (∀ j, j ≤ 1 → (after (runCommands (ticks j) s)).load = true) ∧ (∀ j, j ≤ 1 → ∃ t, runCommands (ticks j) s = .next t) := by
  refine ⟨⟨rfl, rfl, _, rfl⟩, rfl, by decide, by decide, ?_, ?_⟩
  · decide
  · intro j hj
    match j, hj with
    | 0, _ => exact ⟨_, rfl⟩
    | 1, _ => exact ⟨_, rfl⟩

theorem witness_EveryStepKeepsTheInvariant :
    MachineInv (beforeBoundary 700#10) ∧ step (beforeBoundary 700#10) = .next (beforeBoundary 700#10) ∧
    MachineInv (guarding 109 1) ∧ step (guarding 109 1) = .next (after (step (guarding 109 1))) :=
  ⟨machineInv_beforeBoundary, rfl, machineInv_guarding, rfl⟩

theorem witness_TheInvariantHoldsAfterReset : profile.Legal := by decide

theorem witness_ReachableLoadMirrorsDutyAndLatch : Reachable (guarding 0 110) := reachable_guarding rfl (by omega)

theorem witness_LatchedTicksChangeNothing : ∃ s, Reachable s ∧ s.latch = true := ⟨_, reachable_tripped, rfl⟩

theorem witness_ReachableAccumulatorsStayBelowTheirCounts :
    Reachable (guarding 109 1) ∧ (guarding 109 1).duty = dutyOn ∧ Reachable (after (step (guarding 109 1))) :=
  ⟨reachable_guarding rfl (Nat.le_refl _), rfl, reachable_tripped⟩

/-- A FullFeature block whose on-count is 0 after its first tick: the OFF state, reached. -/
theorem witness_ReachableAccumulators_off : ∃ s, Reachable s ∧ s.duty = dutyOff := by
  have r := Reachable.reset (some profile) (by decide)
    [.command 0x70000001#32, .command 0x80000000#32, .command 0x90000000#32] [] 0
  exact ⟨_, .step _ _ (.step _ _ (.step _ _ r rfl) rfl) rfl, rfl⟩

theorem witness_ReachableCfgPhaseHoldsItsValues : ∃ s, Reachable s ∧ s.phase = .cfg :=
  ⟨_, .reset (some profile) (by decide) [] [] 0, rfl⟩

theorem witness_ReachableActiveRegistersAreBounded :
    Reachable (guarding 0 110) ∧ (guarding 0 110).phase = .run ∧ (guarding 0 110).calV = false :=
  ⟨reachable_guarding rfl (by omega), rfl, rfl⟩

theorem witness_LatchIsOneWayUntilReset :
    (∃ s t, Reachable s ∧ step s = .next t ∧ s.latch = false ∧ t.latch = true) ∧
    ∃ s t, Reachable s ∧ step s = .next t ∧ s.latch = true :=
  ⟨⟨_, _, reachable_guarding (k := 109) (n := 1) rfl (Nat.le_refl _), rfl, rfl, rfl⟩,
    ⟨_, _, reachable_tripped, rfl, rfl⟩⟩

end Sys2Proof.Tests
end

/-! The proofs of the family 00_scope: what a step does with an offered command (R10), and the events of a change of an
output (R14). The first part holds the facts about the decoder, the second those about RESET and START. -/

namespace Sys2Proof.Proofs.Scope

open Sys2Proof Sys2Proof.Machine Sys2Proof.Safety Sys2Proof.Laws

/-! ### The opcode table: field OP tells the rows apart (R58, R59) -/

theorem opField_and (v w : Word) : opField (v &&& w) = opField v &&& opField w :=
  BitVec.extractLsb'_and

/-- Each row's mask covers OP, and its match has the row's place in the table there. -/
theorem opcodeTable_opField (k : Fin 10) :
    opField opcodeTable[k].mask = BitVec.allOnes 4 ∧ opField opcodeTable[k].matchBits = BitVec.ofNat 4 k := by
  revert k; decide

/-- A word that matches a row holds the row's place in the table in OP. -/
theorem opField_of_matchesWord {k : Fin 10} {w : Word} (h : opcodeTable[k].matchesWord w = true) :
    opField w = BitVec.ofNat 4 k := by
  obtain ⟨hmask, hbits⟩ := opcodeTable_opField k
  have hw : w &&& opcodeTable[k].mask = opcodeTable[k].matchBits := eq_of_beq h
  rw [← hbits, ← hw, opField_and, hmask, BitVec.and_allOnes]

/-- No word matches two rows. -/
theorem row_unique {j k : Fin 10} {w : Word} (hj : opcodeTable[j].matchesWord w = true)
    (hk : opcodeTable[k].matchesWord w = true) : j = k := by
  have h : BitVec.ofNat 4 j.val = BitVec.ofNat 4 k.val :=
    (opField_of_matchesWord hj).symm.trans (opField_of_matchesWord hk)
  have hnat := congrArg BitVec.toNat h
  simp only [BitVec.toNat_ofNat] at hnat
  omega

/-- A word that matches a row decodes to that row's command. -/
theorem decode_of_matchesWord {k : Fin 10} {w : Word} (h : opcodeTable[k].matchesWord w = true) :
    decode w = .command (opcodeTable[k].build w) := by
  have first : opcodeTable.find? (fun r => r.matchesWord w) = some opcodeTable[k] := by
    refine List.find?_eq_some_iff_getElem.mpr ⟨h, k.val, k.isLt, rfl, fun j hj => ?_⟩
    have other : opcodeTable[(⟨j, hj.trans k.isLt⟩ : Fin 10)].matchesWord w ≠ true :=
      fun hm => hj.ne (congrArg Fin.val (row_unique hm h))
    simpa using other
  unfold decode
  rw [first]

/-! ### Operands are read back from the encoded word (R60, R70) -/

theorem byteOperand_or (v w : Word) : byteOperand (v ||| w) = byteOperand v ||| byteOperand w :=
  BitVec.extractLsb'_or

theorem rawOperand_or (v w : Word) : rawOperand (v ||| w) = rawOperand v ||| rawOperand w :=
  BitVec.extractLsb'_or

theorem idxOperand_or (v w : Word) : idxOperand (v ||| w) = idxOperand v ||| idxOperand w :=
  BitVec.extractLsb'_or

@[simp] theorem byteOperand_setWidth (b : Byte) : byteOperand (b.setWidth 32) = b :=
  (BitVec.extractLsb'_setWidth_of_le (by decide)).trans BitVec.extractLsb'_eq_self

@[simp] theorem rawOperand_setWidth (n : Half) : rawOperand (n.setWidth 32) = n :=
  (BitVec.extractLsb'_setWidth_of_le (by decide)).trans BitVec.extractLsb'_eq_self

theorem byteOperand_or_setWidth {v : Word} (h : byteOperand v = 0#8) (b : Byte) :
    byteOperand (v ||| b.setWidth 32) = b := by
  rw [byteOperand_or, h, byteOperand_setWidth, BitVec.zero_or]

theorem rawOperand_or_setWidth {v : Word} (h : rawOperand v = 0#16) (n : Half) :
    rawOperand (v ||| n.setWidth 32) = n := by
  rw [rawOperand_or, h, rawOperand_setWidth, BitVec.zero_or]

/-- A byte operand has no bit in the index field. -/
theorem idxOperand_setWidth_byte (b : Byte) : idxOperand (b.setWidth 32) = 0#2 := by
  ext k
  simpa [idxOperand] using fun _ => BitVec.getLsbD_of_ge b (24 + k) (by omega)

/-- WRFAC's word before its byte: the index is in place, and the byte field is clear. -/
theorem operands_of_wrfac_index (i : BitVec 2) :
    idxOperand (0x20000000#32 ||| i.setWidth 32 <<< 24) = i ∧
      byteOperand (0x20000000#32 ||| i.setWidth 32 <<< 24) = 0#8 := by
  revert i; decide

/-- The row of a command builds the command from the command's own word. -/
theorem build_encode (i : Instr) : opcodeTable[i.rowIndex].build (encode i) = i := by
  cases i with
  | nop => rfl
  | reset => rfl
  | wrfac idx b =>
    obtain ⟨hidx, hbyte⟩ := operands_of_wrfac_index idx
    have hi : idxOperand (encode (.wrfac idx b)) = idx := by
      rw [encode, idxOperand_or, hidx, idxOperand_setWidth_byte, BitVec.or_zero]
    exact congrArg₂ Instr.wrfac hi (byteOperand_or_setWidth hbyte b)
  | wrmag b => exact congrArg Instr.wrmag (byteOperand_or_setWidth rfl b)
  | wron n => exact congrArg Instr.wron (rawOperand_or_setWidth rfl n)
  | wroff n => exact congrArg Instr.wroff (rawOperand_or_setWidth rfl n)
  | wrthr n => exact congrArg Instr.wrthr (rawOperand_or_setWidth rfl n)
  | wrmode m => cases m <;> rfl
  | start => rfl
  | tick => rfl

theorem matchesOwnRow (i : Instr) : MatchesOwnRow.Statement i := by
  cases i with
  | nop => exact MatchesOwnRow.nop
  | reset => exact MatchesOwnRow.reset
  | wrfac idx b => exact MatchesOwnRow.wrfac idx b
  | wrmag b => exact MatchesOwnRow.wrmag b
  | wron n => exact MatchesOwnRow.wron n
  | wroff n => exact MatchesOwnRow.wroff n
  | wrthr n => exact MatchesOwnRow.wrthr n
  | wrmode m => exact MatchesOwnRow.wrmode m
  | start => exact MatchesOwnRow.start
  | tick => exact MatchesOwnRow.tick

/-- Decoding inverts encoding (R70). -/
theorem decode_encode (i : Instr) : decode (encode i) = .command i := by
  obtain ⟨r, hr, hmatch⟩ := matchesOwnRow i
  obtain ⟨_, rfl⟩ := List.getElem?_eq_some_iff.mp hr
  exact (decode_of_matchesWord (k := i.rowIndex) hmatch).trans (congrArg _ (build_encode i))

/-! ### A step on an offered command (R10) -/

theorem execWord_of_command {w : Word} {i : Instr} (h : decode w = .command i) (s : State) :
    execWord w s = exec i s := by
  unfold execWord
  rw [h]

/-- A step on an offered word that decodes runs the command from the begun state. -/
theorem step_command {s : State} {w : Word} {rest : List HostInput} {i : Instr} (hhost : s.host = .command w :: rest)
    (hw : decode w = .command i) : step s = exec i { s with host := rest, events := [], readData := none } :=
  (step_input hhost).trans (execWord_of_command hw _)

/-- A word of 32 bits is carried whole by the table's numbering. -/
theorem tableWord_toNat (w : Word) : tableWord 32 w.toNat = w := by
  rw [tableWord, Nat.mod_eq_of_lt w.isLt, BitVec.ofNat_toNat, BitVec.setWidth_eq]

theorem withFetchWord_host (s : State) (w : Word) :
    (s.withFetchWord 32 w.toNat).host = .command w :: s.host := by
  simp [State.withFetchWord, offerWord, tableWord_toNat]

/-- Settles O9: the offer is the step's input, and the word of a command decodes to the command. -/
theorem stepRunsTheOfferedCommand : Obligations.StepRunsTheOfferedCommand :=
  ⟨fun _ _ _ _ hhost hw => step_command hhost hw,
    fun s i => step_command (withFetchWord_host s (encode i)) (decode_encode i)⟩

/-! ### RESET and START with a change of an output (R14, R87, R111) -/

theorem exec_reset (s : State) : exec .reset s = .next (applyReset s) := rfl

theorem exec_start_of_cfg {s : State} (h : s.phase = .cfg) : exec .start s = .next (commit s) :=
  congrArg Host.Outcome.next (inPhase_of_eq h)

theorem registersReset_applyReset (s : State) : RegistersReset (applyReset s) := by
  rw [applyReset_eq]
  simp [RegistersReset, State.reset]

/-- The events of a reset: those of the outputs that change, LOAD's first. -/
theorem applyReset_events (s : State) :
    (applyReset s).events =
      s.events ++ ((if s.load then [] else [.loadOn]) ++ if s.senseEn then [.senseOff] else []) := by
  rw [applyReset_eq]

@[simp] theorem commit_phase (s : State) : (commit s).phase = .run := rfl

@[simp] theorem commit_load (s : State) : (commit s).load = true := setLoad_load true _

/-- START emits LOAD's event where LOAD changes, and nothing else. -/
theorem commit_events (s : State) :
    (commit s).events = s.events ++ if s.load = true then [] else [.loadOn] :=
  setLoad_events true _

/-- Settles O21, from the events of a reset and those of START. -/
theorem outputChangesOutsideReachableStatesEmitEvents :
    Obligations.OutputChangesOutsideReachableStatesEmitEvents := by
  refine ⟨fun s hsense => ⟨_, exec_reset s, registersReset_applyReset s, ?_⟩,
    fun s hphase hload => ⟨_, exec_start_of_cfg hphase, commit_phase s, commit_load s, ?_⟩⟩
  · rw [applyReset_events, if_pos hsense]
  · simp [commit_events, hload]

end Sys2Proof.Proofs.Scope

/-! The proofs of the family 10_state: the status port (R31 to R33), the writers of the registers (R17) and LATCH (R27).
The last two rest on the closed form of a TICK and on one predicate: every register outside a list holds its value. -/

namespace Sys2Proof.Proofs.RegisterState

open Sys2Proof Sys2Proof.Machine Sys2Proof.Safety Sys2Proof.Laws Sys2Proof.Proofs.Scope

/-! ### The status port (R31, R32, R33) -/

/-- Appending bit vectors is positional: the low one keeps its place. -/
theorem toNat_append_eq {m n : Nat} (x : BitVec m) (y : BitVec n) :
    (x ++ y).toNat = x.toNat * 2 ^ n + y.toNat := by
  rw [BitVec.toNat_append, ← Nat.shiftLeft_add_eq_or_of_lt y.isLt, Nat.shiftLeft_eq]

theorem phase_toBool_toNat (p : Phase) : p.toBool.toNat = if p = .run then 1 else 0 := by
  cases p <;> rfl

theorem mode_toBool_toNat (m : FeatureMode) : m.toBool.toNat = if m = .fullFeature then 1 else 0 := by
  cases m <;> rfl

/-- The STATUS word as the sum of its bits at their places (R32). -/
theorem statusWord_toNat (s : State) :
    s.statusWord.toNat =
      s.load.toNat + 2 * s.latch.toNat + 4 * s.duty.toNat + 16 * (if s.phase = .run then 1 else 0) +
        32 * (if s.mode = .fullFeature then 1 else 0) + 64 * s.calV.toNat + 128 * s.senseEn.toNat := by
  simp only [State.statusWord, toNat_append_eq, BitVec.toNat_ofBool, phase_toBool_toNat, mode_toBool_toNat,
    BitVec.toNat_ofNat]
  omega

theorem zext32_toNat (v : Half) : (zext32 v).toNat = v.toNat :=
  BitVec.toNat_setWidth_of_le (by decide)

theorem zextByte_toNat (b : Byte) : (zextByte b).toNat = b.toNat :=
  BitVec.toNat_setWidth_of_le (by decide)

/-- The locations the map does not name read 0 (R31). -/
theorem statusData_of_unmapped (s : State) {a : StatusAddr} (h : 12 ≤ a.toNat) : s.statusData a = 0#32 := by
  have cover : ∀ a : StatusAddr, 12 ≤ a.toNat → a = 12#4 ∨ a = 13#4 ∨ a = 14#4 ∨ a = 15#4 := by decide
  obtain rfl | rfl | rfl | rfl := cover a h <;> rfl

/-- The step's outputs and the host's list are no registers. -/
theorem sameRegisters_outputs (s : State) (host : List HostInput) (events : List Event) (data : Option Word) :
    SameRegisters s { s with host := host, events := events, readData := data } := by
  simp [SameRegisters]

/-- Settles O15, location by location. -/
theorem statusPortFollowsItsMap : Obligations.StatusPortFollowsItsMap :=
  ⟨fun s => ⟨statusWord_toNat s, rfl, rfl, rfl, rfl, rfl, rfl, zext32_toNat s.rawOn, zext32_toNat s.rawOff,
      zext32_toNat s.rawThr, rfl, zextByte_toNat s.img4, fun _ => statusData_of_unmapped s,
      fun _ => sameRegisters_outputs s _ _ _⟩,
    rfl⟩

/-- A step on a status read between commands returns the location's data and clears the last step's events. -/
theorem step_statusRead {s : State} {a : StatusAddr} {rest : List HostInput} (h : s.host = .statusRead a :: rest) :
    step s = .next { s with host := rest, events := [], readData := some (s.statusData a) } :=
  step_input h

/-- Settles O14: the second read finds the registers the first one found. -/
theorem statusReadHasNoSideEffect : Obligations.StatusReadHasNoSideEffect :=
  ⟨fun _ _ _ h => step_statusRead h,
    fun s _ _ h => ⟨_, _, step_statusRead h, step_statusRead rfl, rfl, sameRegisters_outputs s _ _ _,
      sameRegisters_outputs s _ _ _⟩⟩

/-! ### TICK is its closed form (R91 to R103) -/

theorem atBoundary_iff (s : State) : atBoundary (s.vcnt + 1#32) = true ↔ Boundary s := by
  simp [atBoundary, Boundary, BitVec.toNat_add]

theorem countReached_iff (dc cnt : Word) :
    countReached (dc + 1#32) cnt = true ↔ cnt.toNat ≤ (dc.toNat + 1) % 2 ^ 32 := by
  simp [countReached, BitVec.toNat_add]

theorem trips_iff (avg : Nat) (thr : Word) : trips avg thr = true ↔ avg < thr.toNat := by
  simp [trips]

theorem dutyEnabled_iff (s : State) : dutyEnabled s = true ↔ s.mode = .fullFeature ∧ s.latch = false := by
  simp [dutyEnabled]

/-- The readings ahead depend on the sense environment only. -/
theorem upcoming_congr (n : Nat) {s t : State} (hsense : t.sense = s.sense) (hdraws : t.senseDraws = s.senseDraws) :
    upcoming n t = upcoming n s := by
  induction n generalizing s t with
  | zero => rfl
  | succ n ih =>
    have hnext : nextReading t = nextReading s := by simp only [nextReading, hsense, hdraws]
    have hrest : upcoming n (consumeReading t) = upcoming n (consumeReading s) := by
      apply ih <;> cases hs : s.sense <;> simp [consumeReading, hs, hsense, hdraws]
    rw [upcoming, upcoming, hnext, hrest]

/-- The window of a boundary TICK, VCNT restarted. -/
theorem sample_restarted (s : State) : sample { s with vcnt := 0#32 } = (readingMean s, afterWindow s) := by
  have hup : upcoming Config.sampleCount { s with vcnt := 0#32 } = upcoming Config.sampleCount s :=
    upcoming_congr _ rfl rfl
  simp only [sample_eq, consumeReadings_eq, readingMean, readingSum, windowEvents, hup, afterWindow]

/-- LOAD cleared, with the event of the change (R91, R14). -/
theorem setLoad_false_eq (s : State) :
    setLoad false s = { s with load := false, events := s.events ++ if s.load then [.loadOff] else [] } := by
  rw [setLoad_eq]
  cases s.load <;> rfl

/-- LOAD set, with the event of the change (R91, R14). -/
theorem setLoad_true_eq (s : State) :
    setLoad true s = { s with load := true, events := s.events ++ if s.load then [] else [.loadOn] } :=
  setLoad_eq true s

theorem uvAccumulate_of_boundary {s : State} (h : Boundary s) :
    uvAccumulate s = uvCompare (readingMean s) (afterWindow s) := by
  rw [uvAccumulate, if_pos ((atBoundary_iff s).2 h), sample_restarted]

/-- The monitor of the pseudocode is the monitor's closed form. -/
theorem monitorStep_eq (s : State) : monitorStep s = monitorOutcome s := by
  obtain ⟨hoff, hout⟩ | ⟨hon, hin, hout⟩ | ⟨hon, hb, htrip, hout⟩ | ⟨hon, hb, hquiet, hout⟩ :=
    monitorOutcome_cases s
  all_goals rw [hout, monitorStep]
  · rw [if_neg (Bool.eq_false_iff.1 hoff)]
  · rw [if_pos hon, uvAccumulate, if_neg (mt (atBoundary_iff s).1 hin)]
  · have htrips : trips (readingMean s) (afterWindow s).thr = true := (trips_iff _ _).2 htrip
    have hload : (afterWindow s).load = true := hon
    rw [if_pos hon, uvAccumulate_of_boundary hb, uvCompare, if_pos htrips, setLoad_false_eq, if_pos hload]
    rfl
  · have hstays : ¬ trips (readingMean s) (afterWindow s).thr = true := mt (trips_iff _ _).1 hquiet
    rw [if_pos hon, uvAccumulate_of_boundary hb, uvCompare, if_neg hstays]

/-- The state machine of the pseudocode is the state machine's closed form. -/
theorem dutyStep_eq (s : State) : dutyStep s = dutyOutcome s := by
  obtain ⟨hgate, hout⟩ | ⟨hfull, hfree, hcase⟩ := dutyOutcome_cases s
  · have hstop : ¬ dutyEnabled s = true := by
      rw [dutyEnabled_iff]
      rintro ⟨hfull, hfree⟩
      simp [hfull, hfree] at hgate
    rw [hout, dutyStep, if_neg hstop]
  · have hne : dutyOff ≠ dutyOn := by decide
    rw [dutyStep, if_pos ((dutyEnabled_iff s).2 ⟨hfull, hfree⟩), dutyEvaluate]
    obtain ⟨hon, hreach, hout⟩ | ⟨hon, hbelow, hout⟩ | ⟨hoff, hreach, hout⟩ | ⟨hoff, hbelow, hout⟩ |
      ⟨hon, hoff, hout⟩ := hcase
    · rw [hout, if_pos hon, onState, if_pos ((countReached_iff _ _).2 hreach), setLoad_false_eq]
    · rw [hout, if_pos hon, onState, if_neg (mt (countReached_iff _ _).1 hbelow)]
    · rw [hout, if_neg (hoff ▸ hne), if_pos hoff, offState, if_pos ((countReached_iff _ _).2 hreach), setLoad_true_eq]
    · rw [hout, if_neg (hoff ▸ hne), if_pos hoff, offState, if_neg (mt (countReached_iff _ _).1 hbelow)]
    · rw [hout, if_neg hon, if_neg hoff, recover, setLoad_false_eq]

theorem wakeTick_eq (s : State) : wakeTick s = dutyOutcome (monitorOutcome s) := by
  rw [wakeTick, monitorStep_eq, dutyStep_eq]

/-! ### Registers by name, and what a command leaves alone (R17) -/

/-- Register `r` holds in `t` the value it has in `s`. -/
def Keeps (s t : State) : RegName → Prop
  | .phase => t.phase = s.phase
  | .img0 => t.img0 = s.img0
  | .img1 => t.img1 = s.img1
  | .img2 => t.img2 = s.img2
  | .img3 => t.img3 = s.img3
  | .img4 => t.img4 = s.img4
  | .rawOn => t.rawOn = s.rawOn
  | .rawOff => t.rawOff = s.rawOff
  | .rawThr => t.rawThr = s.rawThr
  | .mode => t.mode = s.mode
  | .calF => t.calF = s.calF
  | .calV => t.calV = s.calV
  | .onCnt => t.onCnt = s.onCnt
  | .offCnt => t.offCnt = s.offCnt
  | .thr => t.thr = s.thr
  | .duty => t.duty = s.duty
  | .dcnt => t.dcnt = s.dcnt
  | .vcnt => t.vcnt = s.vcnt
  | .latch => t.latch = s.latch
  | .load => t.load = s.load
  | .senseEn => t.senseEn = s.senseEn

/-- Every register outside `rs` holds its value. -/
def KeepsOthers (rs : List RegName) (s t : State) : Prop := ∀ r, r ∉ rs → Keeps s t r

theorem keeps_refl (s : State) (r : RegName) : Keeps s s r := by
  cases r <;> rfl

theorem Keeps.trans {s t u : State} {r : RegName} (hst : Keeps s t r) (htu : Keeps t u r) : Keeps s u r := by
  cases r <;> exact Eq.trans htu hst

theorem keepsOthers_inPhase {rs : List RegName} {p : Phase} {f : State → State} {s : State}
    (h : s.phase = p → KeepsOthers rs s (f s)) : KeepsOthers rs s (inPhase p f s) := by
  by_cases hp : s.phase = p
  · rw [inPhase_of_eq hp]
    exact h hp
  · rw [inPhase_of_ne hp]
    exact fun r _ => keeps_refl s r

/-- The registers START writes. Its write of LATCH is no change where LATCH is 0, as it is in CFG phase (R39, R87). -/
def startRegs : List RegName := [.phase, .calF, .calV, .onCnt, .offCnt, .thr, .duty, .dcnt, .vcnt, .load]

/-- The registers TICK writes. -/
def tickRegs : List RegName := [.duty, .dcnt, .vcnt, .latch, .load, .senseEn]

theorem keepsOthers_commit {s : State} (h : s.latch = false) : KeepsOthers startRegs s (commit s) := by
  intro r hr
  cases r <;> simp_all [Keeps, commit, startRegs]

theorem keepsOthers_monitorOutcome (s : State) : KeepsOthers tickRegs s (monitorOutcome s) := by
  intro r hr
  obtain ⟨-, hout⟩ | ⟨-, -, hout⟩ | ⟨-, -, -, hout⟩ | ⟨-, -, -, hout⟩ := monitorOutcome_cases s
  all_goals cases r <;> simp_all [Keeps, afterWindow, tickRegs]

theorem keepsOthers_dutyOutcome (s : State) : KeepsOthers tickRegs s (dutyOutcome s) := by
  intro r hr
  obtain ⟨-, hout⟩ | ⟨-, -, ⟨-, -, hout⟩ | ⟨-, -, hout⟩ | ⟨-, -, hout⟩ | ⟨-, -, hout⟩ | ⟨-, -, hout⟩⟩ :=
    dutyOutcome_cases s
  all_goals cases r <;> simp_all [Keeps, tickRegs]

theorem keepsOthers_wakeTick (s : State) : KeepsOthers tickRegs s (wakeTick s) := by
  rw [wakeTick_eq]
  exact fun r hr => (keepsOthers_monitorOutcome s r hr).trans (keepsOthers_dutyOutcome _ r hr)

/-- The writers column of R17: command `i` may change register `r`. -/
def Writer (i : Instr) : RegName → Prop
  | .img0 => (∃ b, i = .wrfac 0#2 b) ∨ i = .reset
  | .img1 => (∃ b, i = .wrfac 1#2 b) ∨ i = .reset
  | .img2 => (∃ b, i = .wrfac 2#2 b) ∨ i = .reset
  | .img3 => (∃ b, i = .wrfac 3#2 b) ∨ i = .reset
  | .img4 => (∃ b, i = .wrmag b) ∨ i = .reset
  | .rawOn => (∃ n, i = .wron n) ∨ i = .reset
  | .rawOff => (∃ n, i = .wroff n) ∨ i = .reset
  | .rawThr => (∃ n, i = .wrthr n) ∨ i = .reset
  | .mode => (∃ m, i = .wrmode m) ∨ i = .reset
  | .phase | .calF | .calV | .onCnt | .offCnt | .thr => i = .start ∨ i = .reset
  | .duty | .dcnt | .vcnt | .load => i = .start ∨ i = .tick ∨ i = .reset
  | .latch | .senseEn => i = .tick ∨ i = .reset

theorem writer_reset (r : RegName) : Writer .reset r := by
  cases r <;> simp [Writer]

theorem writer_start {r : RegName} (h : r ∈ startRegs) : Writer .start r := by
  cases r <;> simp_all [Writer, startRegs]

theorem writer_tick {r : RegName} (h : r ∈ tickRegs) : Writer .tick r := by
  cases r <;> simp_all [Writer, tickRegs]

/-- WRFAC's index names one of the four factor bytes. -/
theorem index_cases (idx : BitVec 2) : idx = 0#2 ∨ idx = 1#2 ∨ idx = 2#2 ∨ idx = 3#2 := by
  revert idx; decide

/-- A write command leaves every register but its target alone. -/
theorem keepsOthers_write {i : Instr} {q : RegName} {s t : State} (hq : writeTarget i = some q)
    (h : exec i s = .next t) : KeepsOthers [q] s t := by
  cases i with
  | nop | reset | start | tick => simp [writeTarget] at hq
  | wrfac idx b =>
    injection h with h
    subst h
    refine keepsOthers_inPhase fun _ r hr => ?_
    obtain rfl | rfl | rfl | rfl := index_cases idx
    all_goals
      obtain rfl := Option.some.inj hq
      cases r <;> simp_all [Keeps, State.setImgByte]
  | wrmag _ | wron _ | wroff _ | wrthr _ | wrmode _ =>
    injection h with h
    injection hq with hq
    subst h hq
    refine keepsOthers_inPhase fun _ r hr => ?_
    cases r <;> simp_all [Keeps]

/-- The target of a write command has the command among its writers. -/
theorem writer_writeTarget {i : Instr} {q : RegName} (hq : writeTarget i = some q) : Writer i q := by
  cases i with
  | nop | reset | start | tick => simp [writeTarget] at hq
  | wrfac idx b =>
    obtain rfl | rfl | rfl | rfl := index_cases idx
    all_goals
      obtain rfl := Option.some.inj hq
      exact .inl ⟨b, rfl⟩
  | wrmag v | wron v | wroff v | wrthr v | wrmode v =>
    injection hq with hq
    subst hq
    exact .inl ⟨v, rfl⟩

/-- If the registers outside `rs` are kept and the command writes those in `rs`, it writes every register that changes. -/
theorem writer_of_keepsOthers {i : Instr} {rs : List RegName} {s t : State} {r : RegName} (hkeep : KeepsOthers rs s t)
    (hwriters : ∀ q ∈ rs, Writer i q) (hne : ¬ Keeps s t r) : Writer i r :=
  hwriters r (not_not.1 (mt (hkeep r) hne))

/-- A command that changes a register is one of its writers (R17). -/
theorem writer_of_change {i : Instr} {s t : State} {r : RegName} (hquiet : s.phase = .cfg → s.latch = false)
    (h : exec i s = .next t) (hne : ¬ Keeps s t r) : Writer i r := by
  have write : ∀ q, writeTarget i = some q → Writer i r := fun q hq =>
    writer_of_keepsOthers (keepsOthers_write hq h) (by simpa using writer_writeTarget hq) hne
  cases i with
  | nop =>
    injection h with h
    subst h
    exact absurd (keeps_refl s r) hne
  | reset => exact writer_reset r
  | wrfac idx b => obtain rfl | rfl | rfl | rfl := index_cases idx <;> exact write _ rfl
  | wrmag _ | wron _ | wroff _ | wrthr _ | wrmode _ => exact write _ rfl
  | start =>
    injection h with h
    subst h
    exact writer_of_keepsOthers (keepsOthers_inPhase fun hcfg => keepsOthers_commit (hquiet hcfg))
      (fun _ => writer_start) hne
  | tick =>
    injection h with h
    subst h
    exact writer_of_keepsOthers (keepsOthers_inPhase fun _ => keepsOthers_wakeTick s) (fun _ => writer_tick) hne

theorem registersReset_reset : RegistersReset State.reset := by
  simp [RegistersReset, State.reset]

/-- Settles O35: each clause is the writers column at one register. -/
theorem registersChangeOnlyByTheirWriters : Obligations.RegistersChangeOnlyByTheirWriters := by
  refine ⟨registersReset_reset, fun i s t hquiet h => ?_⟩
  have change : ∀ r, ¬ Keeps s t r → Writer i r := fun r => writer_of_change hquiet h
  exact ⟨change .phase, change .img0, change .img1, change .img2, change .img3, change .img4, change .rawOn,
    change .rawOff, change .rawThr, change .mode, change .calF, change .calV, change .onCnt, change .offCnt,
    change .thr, change .duty, change .dcnt, change .vcnt, change .latch, change .load, change .senseEn⟩

/-! ### LATCH (R27) -/

/-- The threshold comparator trips on this TICK (R93, R94, R97). -/
def ComparatorTrips (s : State) : Prop := s.load = true ∧ Boundary s ∧ readingMean s < s.thr.toNat

/-- The comparator does not see the host or the step's outputs. -/
theorem comparatorTrips_outputs (s : State) (host : List HostInput) (events : List Event) (data : Option Word) :
    ComparatorTrips { s with host := host, events := events, readData := data } ↔ ComparatorTrips s := by
  simp only [ComparatorTrips, readingMean, readingSum,
    upcoming_congr _ (s := s) (t := { s with host := host, events := events, readData := data }) rfl rfl]

theorem monitorOutcome_latch (s : State) :
    (monitorOutcome s).latch = true ↔ s.latch = true ∨ ComparatorTrips s := by
  obtain ⟨hoff, hout⟩ | ⟨hon, hin, hout⟩ | ⟨hon, hb, htrip, hout⟩ | ⟨hon, hb, hquiet, hout⟩ :=
    monitorOutcome_cases s
  all_goals rw [hout]
  · simp [ComparatorTrips, hoff]
  · simp only [ComparatorTrips, hin, false_and, and_false, or_false]
  · simp only [ComparatorTrips, hon, hb, htrip, and_self, or_true]
  · simp only [ComparatorTrips, hquiet, and_false, or_false, afterWindow]

theorem dutyOutcome_latch (s : State) : (dutyOutcome s).latch = s.latch := by
  obtain ⟨-, hout⟩ | ⟨-, -, ⟨-, -, hout⟩ | ⟨-, -, hout⟩ | ⟨-, -, hout⟩ | ⟨-, -, hout⟩ | ⟨-, -, hout⟩⟩ :=
    dutyOutcome_cases s
  all_goals rw [hout]

/-- After a TICK in RUN phase LATCH is 1 exactly where it was 1 or the comparator trips (R98). -/
theorem wakeTick_latch (s : State) : (wakeTick s).latch = true ↔ s.latch = true ∨ ComparatorTrips s := by
  rw [wakeTick_eq, dutyOutcome_latch, monitorOutcome_latch]

/-- What a command other than RESET does to LATCH: nothing, or the comparator sets it in RUN phase. -/
theorem exec_latch {i : Instr} {s t : State} (h : exec i s = .next t) (hi : i ≠ .reset)
    (hquiet : s.phase = .cfg → s.latch = false) :
    t.latch = s.latch ∨ s.phase = .run ∧ ComparatorTrips s ∧ t.latch = true := by
  by_cases hkeep : t.latch = s.latch
  · exact .inl hkeep
  · obtain rfl | rfl : i = .tick ∨ i = .reset := writer_of_change (r := .latch) hquiet h hkeep
    · obtain rfl : inPhase .run wakeTick s = t := Host.Outcome.next.inj h
      cases hphase : s.phase with
      | cfg => exact absurd (congrArg State.latch (inPhase_of_ne (by simp [hphase]))) hkeep
      | run =>
        rw [inPhase_of_eq hphase] at hkeep ⊢
        cases hlatch : s.latch with
        | true => exact .inl ((wakeTick_latch s).2 (.inl hlatch))
        | false =>
          have hset : (wakeTick s).latch = true := by simpa [hlatch] using hkeep
          obtain hheld | htrips := (wakeTick_latch s).1 hset
          · simp [hlatch] at hheld
          · exact .inr ⟨rfl, htrips, hset⟩
    · exact absurd rfl hi

/-- Only RESET leaves RUN phase (R18). -/
theorem exec_phase_run {i : Instr} {s t : State} (h : exec i s = .next t) (hi : i ≠ .reset) (hrun : s.phase = .run) :
    t.phase = .run := by
  by_contra hne
  have hquiet : s.phase = .cfg → s.latch = false := by simp [hrun]
  have hchange : t.phase ≠ s.phase := by rwa [hrun]
  obtain rfl | rfl : i = .start ∨ i = .reset := writer_of_change (r := .phase) hquiet h hchange
  · obtain rfl : inPhase .cfg commit s = t := Host.Outcome.next.inj h
    rw [inPhase_of_ne (by simp [hrun])] at hne
    exact hne hrun
  · exact hi rfl

/-- Every step leaves the reset state, or is one command other than RESET, but for the data of a status read. -/
theorem step_resets_or_exec {s t : State} (h : step s = .next t) :
    RegistersReset t ∨
    ∃ i u, i ≠ .reset ∧ exec i { s with host := s.host.tail, events := [], readData := none } = .next u ∧
      t = { u with readData := t.readData } := by
  obtain ⟨i, u, hexec, ht⟩ | ⟨u, -, -, rfl⟩ := step_cases h
  · by_cases hi : i = .reset
    · subst hi
      obtain rfl := Host.Outcome.next.inj hexec
      rw [ht]
      exact .inl (registersReset_applyReset _)
    · exact .inr ⟨i, u, hi, hexec, ht⟩
  · exact .inl (registersReset_applyReset u)

/-- What a step does to LATCH and to PHASE: a reset; or RUN phase stays, and LATCH holds or the comparator sets it. -/
theorem step_latch {s t : State} (hquiet : s.phase = .cfg → s.latch = false) (h : step s = .next t) :
    RegistersReset t ∨
    (s.phase = .run → t.phase = .run) ∧
      (t.latch = s.latch ∨ s.phase = .run ∧ ComparatorTrips s ∧ t.latch = true) := by
  obtain hreset | ⟨i, u, hi, hexec, ht⟩ := step_resets_or_exec h
  · exact .inl hreset
  · have hphase := exec_phase_run hexec hi
    have hlatch := exec_latch hexec hi hquiet
    rw [comparatorTrips_outputs] at hlatch
    rw [ht]
    exact .inr ⟨hphase, hlatch⟩

theorem latch_of_registersReset {t : State} (h : RegistersReset t) : t.latch = false := by
  simp only [RegistersReset] at h
  simp only [h]

/-- In every reachable state LATCH is 0 in CFG phase (R39). -/
theorem latch_of_cfg {s : State} (h : Reachable s) : s.phase = .cfg → s.latch = false := by
  induction h with
  | reset => exact fun _ => rfl
  | step s t _ hstep ih =>
    intro hcfg
    obtain hreset | ⟨hphase, hlatch⟩ := step_latch ih hstep
    · exact latch_of_registersReset hreset
    · cases hs : s.phase with
      | cfg =>
        obtain hkept | ⟨hrun, -, -⟩ := hlatch
        · rw [hkept, ih hs]
        · simp [hs] at hrun
      | run => simp [hphase hs] at hcfg

/-- Settles O57, from what a step does to LATCH; in a reachable state START finds LATCH 0 already. -/
theorem latchIsOneWayUntilReset : Obligations.LatchIsOneWayUntilReset := by
  refine ⟨rfl, fun s t hreach hstep => ?_⟩
  obtain hreset | ⟨-, hkept | ⟨hrun, htrips, hset⟩⟩ := step_latch (latch_of_cfg hreach) hstep
  · exact ⟨fun _ => .inr hreset, fun _ hset => by simp [latch_of_registersReset hreset] at hset⟩
  · exact ⟨fun hs => .inl (hkept.trans hs), fun hs hset => by simp [hkept, hs] at hset⟩
  · exact ⟨fun _ => .inl hset, fun _ _ => ⟨hrun, htrips⟩⟩

end Sys2Proof.Proofs.RegisterState

/-! The proofs of the family 20_memory: the factor START forms from the calibration image (R43, R44) and its validity
(R78). -/

namespace Sys2Proof.Proofs.Memory

open Sys2Proof Sys2Proof.Machine Sys2Proof.Laws Sys2Proof.Proofs.Scope Sys2Proof.Proofs.RegisterState

/-- The factor as the sum of its bytes at their places, the lowest offset the most significant (R43). -/
theorem imgFactor_toNat (s : State) :
    s.imgFactor.toNat = s.img0.toNat * 2 ^ 24 + s.img1.toNat * 2 ^ 16 + s.img2.toNat * 2 ^ 8 + s.img3.toNat := by
  simp only [State.imgFactor, toNat_append_eq]
  omega

/-- Status location 0xA shows the factor that START would form (R44). -/
theorem statusData_imgFactor (s : State) : s.statusData 0xA#4 = s.imgFactor := rfl

/-- The image's factor bytes are all 0x00 after reset (R17). -/
theorem imgFactor_reset : State.reset.imgFactor = 0#32 := by decide

theorem magicMatches_iff (s : State) : magicMatches s = true ↔ s.img4 = s.params.magic := beq_iff_eq

@[simp] theorem commit_calF (s : State) : (commit s).calF = s.imgFactor := by simp [commit]

@[simp] theorem commit_calV (s : State) : (commit s).calV = magicMatches s := by simp [commit]

/-- Settles O26: each clause reads CAL_F and CAL_V off the state START leaves; after reset byte 4 is 0x00. -/
theorem startLoadsTheFactorBigEndian : Obligations.StartLoadsTheFactorBigEndian := by
  refine ⟨fun s hcfg => ⟨commit s, exec_start_of_cfg hcfg, ?_, ?_, ?_⟩,
    fun p => ⟨_, exec_start_of_cfg rfl, ?_, ?_⟩, fun s hcfg h0 h1 h2 h3 => ⟨commit s, exec_start_of_cfg hcfg, ?_⟩⟩
  · rw [commit_calF, imgFactor_toNat]
  · rw [commit_calF, statusData_imgFactor]
  · rw [commit_calV, magicMatches_iff]
  · rw [commit_calF]
    exact imgFactor_reset
  · rw [commit_calV, magicMatches_iff]
    exact eq_comm
  · rw [commit_calF, State.imgFactor, h0, h1, h2, h3]
    rfl

end Sys2Proof.Proofs.Memory

/-! The proofs of the family 30_encoding: the decoder against the opcode table (R59), the operands (R60), the ILLEGAL
words (R62), and the assembler (R66 to R69, R71). All rest on one fact: a word matches a row exactly when OP holds the
row's place and the other fields hold no bit that the row does not use. -/

namespace Sys2Proof.Proofs.Encoding

open Sys2Proof Sys2Proof.Machine Sys2Proof.Laws Sys2Proof.Proofs.Scope

/-! ### Every decoded word matches its command's own row, and that row builds the command (R59, R61) -/

theorem matchesWord_iff_and (r : Row) (w : Word) : r.matchesWord w = true ↔ w &&& r.mask = r.matchBits :=
  beq_iff_eq

theorem mem_opcodeTable_iff (r : Row) : r ∈ opcodeTable ↔ ∃ k : Fin 10, opcodeTable[k] = r :=
  List.mem_iff_get

theorem build_rowIndex (k : Fin 10) (w : Word) : (opcodeTable[k].build w).rowIndex = k := by
  fin_cases k <;> rfl

theorem decode_command_iff (w : Word) (i : Instr) :
    decode w = .command i ↔
      opcodeTable[i.rowIndex].matchesWord w = true ∧ opcodeTable[i.rowIndex].build w = i := by
  constructor
  · intro h
    cases hfind : opcodeTable.find? (fun r => r.matchesWord w) with
    | none => simp [decode, hfind] at h
    | some r =>
      obtain ⟨k, rfl⟩ := (mem_opcodeTable_iff r).mp (List.mem_of_find?_eq_some hfind)
      have hbuild : opcodeTable[k].build w = i := by simpa [decode, hfind] using h
      have hk : i.rowIndex = k := hbuild ▸ build_rowIndex k w
      rw [hk]
      exact ⟨List.find?_some (p := (Row.matchesWord · w)) hfind, hbuild⟩
  · rintro ⟨hmatch, hbuild⟩
    rw [decode_of_matchesWord hmatch, hbuild]

theorem matchesWord_of_decode {w : Word} {i : Instr} (h : decode w = .command i) :
    opcodeTable[i.rowIndex].matchesWord w = true :=
  ((decode_command_iff w i).mp h).1

theorem build_of_decode {w : Word} {i : Instr} (h : decode w = .command i) :
    opcodeTable[i.rowIndex].build w = i :=
  ((decode_command_iff w i).mp h).2

theorem exists_command_iff (w : Word) :
    (∃ i, decode w = .command i) ↔ ∃ k : Fin 10, opcodeTable[k].matchesWord w = true :=
  ⟨fun ⟨i, h⟩ => ⟨i.rowIndex, matchesWord_of_decode h⟩, fun ⟨_, h⟩ => ⟨_, decode_of_matchesWord h⟩⟩

theorem exists_illegal_iff (w : Word) : (∃ why, decode w = .illegal why) ↔ ¬ ∃ i, decode w = .command i := by
  cases decode w <;> simp

/-- Settles O3: OP tells the rows apart, and a decoded word matches the row of its command. -/
theorem decodeFollowsDisjointOpcodeTable : Obligations.DecodeFollowsDisjointOpcodeTable := by
  refine ⟨rfl, fun w r hr q hq hrw hqw => ?_, fun w => ?_, fun w i h => ⟨opcodeTable[i.rowIndex], ?_, ?_⟩⟩
  · obtain ⟨j, rfl⟩ := (mem_opcodeTable_iff r).mp hr
    obtain ⟨k, rfl⟩ := (mem_opcodeTable_iff q).mp hq
    rw [row_unique ((matchesWord_iff_and _ w).mpr hrw) ((matchesWord_iff_and _ w).mpr hqw)]
  · simp only [exists_command_iff, mem_opcodeTable_iff, matchesWord_iff_and]
    exact ⟨fun ⟨k, h⟩ => ⟨_, ⟨k, rfl⟩, h⟩, fun ⟨_, ⟨k, hk⟩, h⟩ => ⟨k, hk ▸ h⟩⟩
  · exact List.getElem?_eq_getElem _
  · exact (matchesWord_iff_and _ w).mp (matchesWord_of_decode h)

/-! ### A field holds its digits of the word (R57, R60) -/

theorem toNat_extractLsb' (w : Word) (start len : Nat) :
    (w.extractLsb' start len).toNat = w.toNat / 2 ^ start % 2 ^ len := by
  rw [BitVec.extractLsb'_toNat, Nat.shiftRight_eq_div_pow]

theorem opField_toNat (w : Word) : (opField w).toNat = w.toNat / 2 ^ 28 := by
  rw [opField, toNat_extractLsb']
  omega

theorem addrField_toNat (w : Word) : (addrField w).toNat = w.toNat / 2 ^ 24 % 16 :=
  toNat_extractLsb' w 24 4

theorem rsvField_toNat (w : Word) : (rsvField w).toNat = w.toNat / 2 ^ 16 % 256 :=
  toNat_extractLsb' w 16 8

theorem dataField_toNat (w : Word) : (dataField w).toNat = w.toNat % 2 ^ 16 := by
  rw [dataField, toNat_extractLsb', Nat.pow_zero, Nat.div_one]

theorem idxOperand_toNat (w : Word) : (idxOperand w).toNat = w.toNat / 2 ^ 24 % 4 :=
  toNat_extractLsb' w 24 2

theorem byteOperand_toNat (w : Word) : (byteOperand w).toNat = w.toNat % 256 := by
  rw [byteOperand, toNat_extractLsb', Nat.pow_zero, Nat.div_one]
  rfl

theorem rawOperand_toNat (w : Word) : (rawOperand w).toNat = w.toNat % 65536 :=
  dataField_toNat w

theorem modeOperand_eq_fullFeature_iff (w : Word) : modeOperand w = .fullFeature ↔ w.toNat % 2 = 1 := by
  simp [modeOperand, FeatureMode.ofBool, BitVec.getLsbD, Nat.testBit_zero]

/-- Settles O4: a decoded command is the one its row builds, from the operand fields of the word. -/
theorem operandsAreTheirWordFields : Obligations.OperandsAreTheirWordFields := by
  refine ⟨fun w idx b h => ?_, fun w b h => ?_, fun w d h => ?_, fun w d h => ?_, fun w d h => ?_, fun w m h => ?_⟩
  · obtain ⟨rfl, rfl⟩ := Instr.wrfac.inj (build_of_decode h)
    exact ⟨idxOperand_toNat w, byteOperand_toNat w⟩
  · obtain rfl := Instr.wrmag.inj (build_of_decode h)
    exact byteOperand_toNat w
  · obtain rfl := Instr.wron.inj (build_of_decode h)
    exact rawOperand_toNat w
  · obtain rfl := Instr.wroff.inj (build_of_decode h)
    exact rawOperand_toNat w
  · obtain rfl := Instr.wrthr.inj (build_of_decode h)
    exact rawOperand_toNat w
  · obtain rfl := Instr.wrmode.inj (build_of_decode h)
    exact modeOperand_eq_fullFeature_iff w

/-! ### A row, field by field (R57, R59) -/

/-- How many of the low bits of ADDR a row's operands use: WRFAC's index, `ADDR[1:0]`. -/
def addrBits (k : Fin 10) : Nat := if k = 2 then 2 else 0

/-- How many of the low bits of DATA a row's operands use, in table order. -/
def dataBits : Fin 10 → Nat := ![0, 0, 8, 8, 16, 16, 16, 1, 0, 0]

/-- A word is the four fields of R57. -/
theorem word_eq_iff_fields (v w : Word) :
    v = w ↔ opField v = opField w ∧ addrField v = addrField w ∧ rsvField v = rsvField w ∧
      dataField v = dataField w := by
  refine ⟨fun h => h ▸ ⟨rfl, rfl, rfl, rfl⟩, ?_⟩
  simp only [← BitVec.toNat_inj, opField_toNat, addrField_toNat, rsvField_toNat, dataField_toNat]
  omega

theorem addrField_and (v w : Word) : addrField (v &&& w) = addrField v &&& addrField w :=
  BitVec.extractLsb'_and

theorem rsvField_and (v w : Word) : rsvField (v &&& w) = rsvField v &&& rsvField w :=
  BitVec.extractLsb'_and

theorem dataField_and (v w : Word) : dataField (v &&& w) = dataField v &&& dataField w :=
  BitVec.extractLsb'_and

/-- The mask of a row covers OP, RSV and the bits of ADDR and DATA that the row's operands do not use. -/
theorem opcodeTable_mask (k : Fin 10) :
    addrField opcodeTable[k].mask = BitVec.allOnes 4 <<< addrBits k ∧
      rsvField opcodeTable[k].mask = BitVec.allOnes 8 ∧
      dataField opcodeTable[k].mask = BitVec.allOnes 16 <<< dataBits k := by
  revert k; decide

/-- The match of a row has bits in OP alone. -/
theorem opcodeTable_matchBits (k : Fin 10) :
    addrField opcodeTable[k].matchBits = 0#4 ∧ rsvField opcodeTable[k].matchBits = 0#8 ∧
      dataField opcodeTable[k].matchBits = 0#16 := by
  revert k; decide

/-- A field has no bit under a mask of its high bits exactly when its value fits in the low ones. -/
theorem and_allOnes_shiftLeft_eq_zero_iff {n : Nat} (x : BitVec n) (j : Nat) :
    x &&& BitVec.allOnes n <<< j = 0#n ↔ x.toNat < 2 ^ j := by
  rw [← BitVec.shiftLeft_ushiftRight, ← BitVec.toNat_inj, BitVec.toNat_shiftLeft, BitVec.toNat_ushiftRight,
    Nat.shiftLeft_eq, Nat.shiftRight_eq_div_pow, Nat.mod_eq_of_lt ((Nat.div_mul_le_self _ _).trans_lt x.isLt)]
  simp [Nat.div_eq_zero_iff]

/-- A word matches a row exactly when OP holds the row's place and no other field holds a bit the row does not use. -/
theorem matchesWord_iff (k : Fin 10) (w : Word) :
    opcodeTable[k].matchesWord w = true ↔
      w.toNat / 2 ^ 28 = k ∧ w.toNat / 2 ^ 24 % 16 < 2 ^ addrBits k ∧ w.toNat / 2 ^ 16 % 256 = 0 ∧
        w.toNat % 2 ^ 16 < 2 ^ dataBits k := by
  obtain ⟨hop, hopBits⟩ := opcodeTable_opField k
  obtain ⟨haddr, hrsv, hdata⟩ := opcodeTable_mask k
  obtain ⟨haddrBits, hrsvBits, hdataBits⟩ := opcodeTable_matchBits k
  rw [matchesWord_iff_and, word_eq_iff_fields, opField_and, addrField_and, rsvField_and, dataField_and, hop, hopBits,
    haddr, haddrBits, hrsv, hrsvBits, hdata, hdataBits, BitVec.and_allOnes, BitVec.and_allOnes,
    and_allOnes_shiftLeft_eq_zero_iff, and_allOnes_shiftLeft_eq_zero_iff, addrField_toNat, dataField_toNat,
    ← BitVec.toNat_inj, ← BitVec.toNat_inj, opField_toNat, rsvField_toNat, BitVec.toNat_ofNat, BitVec.toNat_ofNat,
    Nat.mod_eq_of_lt (k.isLt.trans (by decide))]

theorem illegal_of_unassigned_op {w : Word} (h : 10 ≤ w.toNat / 2 ^ 28) : ∃ why, decode w = .illegal why := by
  rw [exists_illegal_iff, exists_command_iff]
  rintro ⟨k, hk⟩
  obtain ⟨hop, -⟩ := (matchesWord_iff k w).mp hk
  omega

/-- A word with a row's operation code is ILLEGAL exactly when another field holds a bit the row does not use. -/
theorem illegal_iff_of_op {w : Word} {k : Fin 10} (hop : w.toNat / 2 ^ 28 = k) :
    (∃ why, decode w = .illegal why) ↔
      ¬ (w.toNat / 2 ^ 24 % 16 < 2 ^ addrBits k ∧ w.toNat / 2 ^ 16 % 256 = 0 ∧
        w.toNat % 2 ^ 16 < 2 ^ dataBits k) := by
  rw [exists_illegal_iff, exists_command_iff, not_iff_not]
  simp only [matchesWord_iff]
  constructor
  · rintro ⟨j, hj, hfields⟩
    obtain rfl : j = k := Fin.ext (hj.symm.trans hop)
    exact hfields
  · exact fun hfields => ⟨k, hop, hfields⟩

/-- An ILLEGAL word changes nothing (R112). -/
theorem execWord_of_illegal {w : Word} {why : Illegal} (h : decode w = .illegal why) (s : State) :
    execWord w s = .next s := by
  obtain ⟨_, hcommand, -⟩ | ⟨_, -, hs⟩ := execWord_cases w s
  · cases hcommand.symm.trans h
  · exact hs

/-- Settles O5: R62's list is the rows' unused bits, row by row. -/
theorem illegalWordsAreExactlyTheListedOnes : Obligations.IllegalWordsAreExactlyTheListedOnes := by
  refine ⟨fun w => ?_, fun _ _ s h => execWord_of_illegal h s, ⟨_, rfl⟩, ⟨_, rfl⟩⟩
  obtain hop | hop := Nat.lt_or_ge (w.toNat / 2 ^ 28) 10
  · obtain ⟨k, hk⟩ : ∃ k : Fin 10, w.toNat / 2 ^ 28 = k := ⟨⟨_, hop⟩, rfl⟩
    rw [illegal_iff_of_op hk]
    fin_cases k <;> simp [addrBits, dataBits] at hk ⊢ <;> omega
  · exact iff_of_true (illegal_of_unassigned_op hop) (.inl hop)

/-! ### The encoder is positional (R60, R70) -/

/-- What a command's operands add to the word's value below OP. -/
def operandValue : Instr → Nat
  | .wrfac idx b => idx.toNat * 2 ^ 24 + b.toNat
  | .wrmag b => b.toNat
  | .wron n => n.toNat
  | .wroff n => n.toNat
  | .wrthr n => n.toNat
  | .wrmode m => m.toBool.toNat
  | .nop => 0
  | .reset => 0
  | .start => 0
  | .tick => 0

theorem modeOperand_toBool_toNat (w : Word) : (modeOperand w).toBool.toNat = w.toNat % 2 := by
  obtain h | h := Nat.mod_two_eq_zero_or_one w.toNat <;>
    simp [modeOperand, FeatureMode.ofBool, FeatureMode.toBool, BitVec.getLsbD, Nat.testBit_zero, h]

/-- A word that matches a row is the row's operation code and the operands the row reads from it, and nothing else. -/
theorem toNat_of_matchesWord {k : Fin 10} {w : Word} (h : opcodeTable[k].matchesWord w = true) :
    w.toNat = k * 2 ^ 28 + operandValue (opcodeTable[k].build w) := by
  have hfields := (matchesWord_iff k w).mp h
  fin_cases k <;>
    simp [opcodeTable, operandValue, addrBits, dataBits, idxOperand_toNat, byteOperand_toNat, rawOperand_toNat,
      modeOperand_toBool_toNat] at hfields ⊢ <;>
    omega

theorem encode_toNat (i : Instr) : (encode i).toNat = i.rowIndex * 2 ^ 28 + operandValue i := by
  rw [toNat_of_matchesWord (matchesWord_of_decode (decode_encode i)), build_of_decode (decode_encode i)]

/-! ### The assembler: lines in range (R71) -/

theorem assemble_of_wellFormed {l : AsmLine} (h : l.wellFormed = true) :
    assemble l = (expandLine l).mapM lineWord :=
  if_pos h

theorem assemble_of_illFormed {l : AsmLine} (h : ¬ l.wellFormed = true) : assemble l = none :=
  if_neg h

theorem idxInRange_iff (n : Nat) : idxInRange n = true ↔ n ≤ 3 := decide_eq_true_iff

theorem byteInRange_iff (n : Nat) : byteInRange n = true ↔ n ≤ 255 := decide_eq_true_iff

theorem rawInRange_iff (n : Nat) : rawInRange n = true ↔ n ≤ 65535 := decide_eq_true_iff

theorem wordInRange_iff (n : Nat) : wordInRange n = true ↔ n < 2 ^ 32 := decide_eq_true_iff

theorem number_wellFormed_iff (n : Nat) : (AsmMode.number n).wellFormed = true ↔ n ≤ 1 := decide_eq_true_iff

theorem wrfac_wellFormed_iff (idx byte : Nat) :
    (AsmLine.wrfac idx byte).wellFormed = true ↔ idx ≤ 3 ∧ byte ≤ 255 := by
  simp [AsmLine.wellFormed, idxInRange_iff, byteInRange_iff]

theorem ldcal_wellFormed_iff (f byte : Nat) :
    (AsmLine.ldcal f byte).wellFormed = true ↔ f < 2 ^ 32 ∧ byte ≤ 255 := by
  simp [AsmLine.wellFormed, wordInRange_iff, byteInRange_iff]

theorem config_wellFormed_iff (on off thr : Nat) (mode : AsmMode) :
    (AsmLine.config on off thr mode).wellFormed = true ↔
      on ≤ 65535 ∧ off ≤ 65535 ∧ thr ≤ 65535 ∧ mode.wellFormed = true := by
  simp [AsmLine.wellFormed, rawInRange_iff, and_assoc]

/-- BOOT has the ranges of its CONFIG. -/
theorem boot_wellFormed (on off thr : Nat) (mode : AsmMode) :
    (AsmLine.boot on off thr mode).wellFormed = (AsmLine.config on off thr mode).wellFormed := rfl

/-- BOOT with a calibration record has the ranges of its CONFIG and of its LDCAL. -/
theorem bootCal_wellFormed_iff (on off thr : Nat) (mode : AsmMode) (f byte : Nat) :
    (AsmLine.bootCal on off thr mode f byte).wellFormed = true ↔
      (AsmLine.config on off thr mode).wellFormed = true ∧ (AsmLine.ldcal f byte).wellFormed = true := by
  simp [AsmLine.wellFormed, and_assoc]

/-! ### Pseudo-instructions (R66 to R69) -/

/-- A feature-mode as the assembler's operand (R65). -/
def asmModeOf (m : FeatureMode) : AsmMode := if m = .fullFeature then .full else .prot

/-- A command as a line of source (R65). -/
def lineOf : Instr → AsmLine
  | .nop => .nop
  | .reset => .reset
  | .wrfac idx b => .wrfac idx.toNat b.toNat
  | .wrmag b => .wrmag b.toNat
  | .wron n => .wron n.toNat
  | .wroff n => .wroff n.toNat
  | .wrthr n => .wrthr n.toNat
  | .wrmode m => .wrmode (asmModeOf m)
  | .start => .start
  | .tick => .tick

theorem asmMode_asmModeOf (m : FeatureMode) : asmMode (asmModeOf m) = m := by
  cases m <;> rfl

theorem asmModeOf_wellFormed (m : FeatureMode) : (asmModeOf m).wellFormed = true := by
  cases m <;> rfl

/-- The line of a command has the command's encoding as its word. -/
theorem lineWord_lineOf (i : Instr) : lineWord (lineOf i) = some (encode i) := by
  cases i <;> simp [lineOf, lineWord, asmMode_asmModeOf]

/-- A line that expands to the lines of the commands `is` assembles to their encodings, in order. -/
theorem assemble_of_expandLine {l : AsmLine} {is : List Instr} (hwf : l.wellFormed = true)
    (hexpand : expandLine l = is.map lineOf) : assemble l = some (is.map encode) := by
  rw [assemble_of_wellFormed hwf, hexpand, List.mapM_map,
    show lineWord ∘ lineOf = fun i => pure (encode i) from funext lineWord_lineOf, List.mapM_pure]
  rfl

/-- The commands of `LDCAL f, m` (R66). -/
def ldcalCommands (f : Word) (m : Byte) : List Instr :=
  [.wrfac 0#2 (f.extractLsb' 24 8), .wrfac 1#2 (f.extractLsb' 16 8), .wrfac 2#2 (f.extractLsb' 8 8),
    .wrfac 3#2 (f.extractLsb' 0 8), .wrmag m]

/-- The commands of `CONFIG on, off, thr, mode` (R67). -/
def configCommands (on off thr : Half) (mode : FeatureMode) : List Instr :=
  [.wron on, .wroff off, .wrthr thr, .wrmode mode]

/-- LDCAL's bytes are the factor's, the most significant first. -/
theorem expandLdcal_toNat (f : Word) (m : Byte) :
    expandLdcal f.toNat m.toNat = (ldcalCommands f m).map lineOf := by
  simp only [expandLdcal, ldcalCommands, List.map_cons, List.map_nil, lineOf, toNat_extractLsb', Nat.pow_zero,
    Nat.div_one]
  rfl

theorem expandConfig_toNat (on off thr : Half) (mode : FeatureMode) :
    expandConfig on.toNat off.toNat thr.toNat (asmModeOf mode) = (configCommands on off thr mode).map lineOf := rfl

theorem expandLine_boot_toNat (on off thr : Half) (mode : FeatureMode) :
    expandLine (.boot on.toNat off.toNat thr.toNat (asmModeOf mode)) =
      (.reset :: (configCommands on off thr mode ++ [.start])).map lineOf := rfl

theorem expandLine_bootCal_toNat (on off thr : Half) (mode : FeatureMode) (f : Word) (m : Byte) :
    expandLine (.bootCal on.toNat off.toNat thr.toNat (asmModeOf mode) f.toNat m.toNat) =
      (.reset :: (ldcalCommands f m ++ configCommands on off thr mode ++ [.start])).map lineOf := by
  rw [expandLine, expandLdcal_toNat, expandConfig_toNat]
  simp [lineOf]

theorem ldcal_wellFormed_toNat (f : Word) (m : Byte) : (AsmLine.ldcal f.toNat m.toNat).wellFormed = true :=
  (ldcal_wellFormed_iff _ _).mpr ⟨f.isLt, Nat.le_of_lt_succ m.isLt⟩

theorem config_wellFormed_toNat (on off thr : Half) (mode : FeatureMode) :
    (AsmLine.config on.toNat off.toNat thr.toNat (asmModeOf mode)).wellFormed = true :=
  (config_wellFormed_iff _ _ _ _).mpr ⟨Nat.le_of_lt_succ on.isLt, Nat.le_of_lt_succ off.isLt,
    Nat.le_of_lt_succ thr.isLt, asmModeOf_wellFormed mode⟩

/-- Settles O8: each expansion is the lines of its commands, all in range. -/
theorem pseudoInstructionsExpand : Obligations.PseudoInstructionsExpand := by
  refine ⟨fun f m => assemble_of_expandLine (ldcal_wellFormed_toNat f m) (expandLdcal_toNat f m),
    fun on off thr mode => assemble_of_expandLine (config_wellFormed_toNat on off thr mode)
      (expandConfig_toNat on off thr mode), fun n => ?_, fun on off thr mode => ?_, fun on off thr mode f m => ?_⟩
  · have hexpand : expandLine (.ticks n) = (List.replicate n Instr.tick).map lineOf := by
      rw [List.map_replicate, lineOf, expandLine]
    rw [assemble_of_expandLine rfl hexpand, List.map_replicate]
  · exact assemble_of_expandLine ((boot_wellFormed ..).trans (config_wellFormed_toNat on off thr mode))
      (expandLine_boot_toNat on off thr mode)
  · exact assemble_of_expandLine ((bootCal_wellFormed_iff ..).mpr ⟨config_wellFormed_toNat on off thr mode,
      ldcal_wellFormed_toNat f m⟩) (expandLine_bootCal_toNat on off thr mode f m)

/-! ### Operands out of range and in range (R71) -/

theorem config_illFormed {on off thr : Nat} {mode : AsmMode}
    (h : 65535 < on ∨ 65535 < off ∨ 65535 < thr ∨ ∃ m, mode = .number m ∧ 1 < m) :
    ¬ (AsmLine.config on off thr mode).wellFormed = true := by
  rw [config_wellFormed_iff]
  rintro ⟨hon, hoff, hthr, hmode⟩
  obtain h | h | h | ⟨m, rfl, hm⟩ := h
  · omega
  · omega
  · omega
  · exact absurd ((number_wellFormed_iff m).mp hmode) (Nat.not_le.mpr hm)

theorem ldcal_illFormed {byte : Nat} (h : 255 < byte) (f : Nat) : ¬ (AsmLine.ldcal f byte).wellFormed = true :=
  fun hwf => absurd ((ldcal_wellFormed_iff f byte).mp hwf).2 (Nat.not_le.mpr h)

/-- A line in range that is one command assembles to one word, of the value the command's operands give it. -/
theorem assemble_command {l : AsmLine} {i : Instr} {v : Nat} (hwf : l.wellFormed = true) (hline : expandLine l = [l])
    (hword : lineWord l = some (encode i)) (hv : i.rowIndex * 2 ^ 28 + operandValue i = v) :
    ∃ w, assemble l = some [w] ∧ w.toNat = v := by
  refine ⟨encode i, ?_, (encode_toNat i).trans hv⟩
  simp [assemble_of_wellFormed hwf, hline, hword]

/-- Settles O7: out of range, the line's check fails; in range, the operand is below its field's bound. -/
theorem assemblerRejectsOperandsOutOfRange : Obligations.AssemblerRejectsOperandsOutOfRange := by
  refine ⟨fun idx byte h => assemble_of_illFormed ?_, fun byte h => assemble_of_illFormed ?_,
    fun n h => ?_, fun m h => assemble_of_illFormed ?_, fun on off thr mode h => ?_, fun f byte h => ?_,
    fun idx byte hidx hbyte => ?_, fun byte h => ?_, fun n h => ?_, fun m h => ?_, rfl, rfl, fun w => ?_⟩
  · rw [wrfac_wellFormed_iff]
    omega
  · exact mt (byteInRange_iff byte).mp (Nat.not_le.mpr h)
  · have hill : ¬ rawInRange n = true := mt (rawInRange_iff n).mp (Nat.not_le.mpr h)
    exact ⟨assemble_of_illFormed hill, assemble_of_illFormed hill, assemble_of_illFormed hill⟩
  · exact mt (number_wellFormed_iff m).mp (Nat.not_le.mpr h)
  · have hill := config_illFormed h
    exact ⟨assemble_of_illFormed hill, assemble_of_illFormed (boot_wellFormed .. ▸ hill),
      fun f byte => assemble_of_illFormed fun hwf => hill ((bootCal_wellFormed_iff ..).mp hwf).1⟩
  · have hill := ldcal_illFormed h f
    exact ⟨assemble_of_illFormed hill,
      fun on off thr mode => assemble_of_illFormed fun hwf => hill ((bootCal_wellFormed_iff ..).mp hwf).2⟩
  · refine assemble_command ((wrfac_wellFormed_iff idx byte).mpr ⟨hidx, hbyte⟩) rfl rfl ?_
    simp only [Instr.rowIndex, operandValue, BitVec.toNat_ofNat]
    omega
  · refine assemble_command ((byteInRange_iff byte).mpr h) rfl rfl ?_
    simp only [Instr.rowIndex, operandValue, BitVec.toNat_ofNat]
    omega
  · have hwf := (rawInRange_iff n).mpr h
    refine ⟨assemble_command hwf rfl rfl ?_, assemble_command hwf rfl rfl ?_, assemble_command hwf rfl rfl ?_⟩ <;>
      simp only [Instr.rowIndex, operandValue, BitVec.toNat_ofNat] <;> omega
  · refine assemble_command ((number_wellFormed_iff m).mpr h) rfl rfl ?_
    obtain rfl | rfl := Nat.le_one_iff_eq_zero_or_eq_one.mp h <;> decide
  · have hwf : (AsmLine.word w.toNat).wellFormed = true := (wordInRange_iff _).mpr w.isLt
    simp [assemble_of_wellFormed hwf, expandLine, lineWord]

end Sys2Proof.Proofs.Encoding

/-! The proofs of the family 40_calibration: the commands that write the calibration image (R79, R80), by what every
command that acts in one phase does; and the calibrator (R74 to R76), by one equation for its value, which holds because
a factor in band is below twice the nominal frequency. -/

namespace Sys2Proof.Proofs.Calibration

open Sys2Proof Sys2Proof.Machine Sys2Proof.Laws Sys2Proof.Proofs.Scope Sys2Proof.Proofs.RegisterState
  Sys2Proof.Proofs.Encoding

/-! ### A command that acts in one phase (R113) -/

/-- The command `i` is `f` in phase `p`, and is ignored in the other phase. -/
def ActsIn (p : Phase) (f : State → State) (i : Instr) : Prop := ∀ s, exec i s = .next (inPhase p f s)

section
variable {p : Phase} {f : State → State} {i : Instr} {s t : State}

theorem ActsIn.exec_of_eq (h : ActsIn p f i) (hp : s.phase = p) : exec i s = .next (f s) := by
  rw [h s, inPhase_of_eq hp]

theorem ActsIn.exec_of_ne (h : ActsIn p f i) (hp : s.phase ≠ p) : exec i s = .next s := by
  rw [h s, inPhase_of_ne hp]

/-- Out of its phase a command changes nothing a first or a second time, so only `f` itself has to repeat. -/
theorem ActsIn.exec_again (h : ActsIn p f i) (hf : ∀ s, f (f s) = f s) (hs : exec i s = .next t) :
    exec i t = .next t := by
  by_cases ht : t.phase = p
  · by_cases hp : s.phase = p
    · obtain rfl := Host.Outcome.next.inj ((h.exec_of_eq hp).symm.trans hs)
      rw [h.exec_of_eq ht, hf]
    · obtain rfl := Host.Outcome.next.inj ((h.exec_of_ne hp).symm.trans hs)
      exact absurd ht hp
  · exact h.exec_of_ne ht

end

theorem cfg_ne_of_run {s : State} (h : s.phase = .run) : s.phase ≠ .cfg := by
  simp [h]

/-! ### The calibration image (R79, R80) -/

theorem actsIn_wrfac (i : BitVec 2) (b : Byte) : ActsIn .cfg (fun s => s.setImgByte i b) (.wrfac i b) :=
  fun _ => rfl

theorem actsIn_wrmag (b : Byte) : ActsIn .cfg (fun s => { s with img4 := b }) (.wrmag b) :=
  fun _ => rfl

/-- The last write of a factor byte wins. -/
theorem setImgByte_setImgByte (s : State) (i : BitVec 2) (a b : Byte) :
    (s.setImgByte i a).setImgByte i b = s.setImgByte i b := by
  obtain rfl | rfl | rfl | rfl := index_cases i <;> rfl

/-- WRFAC uses the two low bits of ADDR, so a byte index of 4 or more is no word of it (R79). -/
theorem illegal_of_wrfac_index {w : Word} (hop : w.toNat / 2 ^ 28 = 2) (hidx : 4 ≤ w.toNat / 2 ^ 24 % 16) :
    ∃ why, decode w = .illegal why := by
  rw [illegal_iff_of_op (k := 2) hop]
  rintro ⟨haddr, -⟩
  exact absurd haddr (not_lt.mpr hidx)

/-- Settles O22: WRFAC acts in CFG phase by one update of the image, and its words are the encoder's. -/
theorem wrfacWritesOneFactorByte : Obligations.WrfacWritesOneFactorByte := by
  refine ⟨fun s b hcfg => ?_, fun s i b hrun => (actsIn_wrfac i b).exec_of_ne (cfg_ne_of_run hrun),
    fun s i b t => (actsIn_wrfac i b).exec_again fun s => setImgByte_setImgByte s i b b,
    fun i b => decode_encode (.wrfac i b), fun w => illegal_of_wrfac_index,
    decode_encode (.wrfac 2#2 0xC2#8)⟩
  have write : ∀ i, exec (.wrfac i b) s = .next (s.setImgByte i b) := fun i => (actsIn_wrfac i b).exec_of_eq hcfg
  exact ⟨write 0#2, write 1#2, write 2#2, write 3#2⟩

/-- Settles O23: WRMAG acts in CFG phase by one update of the image, and CAL_V is none of its targets. -/
theorem wrmagWritesTheMagicByte : Obligations.WrmagWritesTheMagicByte := by
  refine ⟨fun s b hcfg => (actsIn_wrmag b).exec_of_eq hcfg,
    fun s b hrun => (actsIn_wrmag b).exec_of_ne (cfg_ne_of_run hrun),
    fun s b t h => ⟨(actsIn_wrmag b).exec_again (fun _ => rfl) h, ?_⟩,
    fun b => decode_encode (.wrmag b), decode_encode (.wrmag 0xA5#8)⟩
  exact keepsOthers_write (q := .img4) rfl h .calV (by decide)

/-! ### The calibrator (R74 to R76) -/

section
variable {p : Params}

/-- The band as the spec writes it, over the integers: below a legal nominal frequency the tolerance does not cut its
lower bound off at 0 (R8, R74). -/
theorem inBand_iff (hp : p.Legal) (f : Word) :
    inBand p f = true ↔
      (p.nominalHz : Int) - p.tolHz ≤ f.toNat ∧ (f.toNat : Int) ≤ p.nominalHz + p.tolHz := by
  obtain ⟨-, htol⟩ := hp
  simp only [inBand, Bool.and_eq_true, decide_eq_true_eq]
  omega

/-- A factor in band is below twice the nominal frequency, so the quotient stays at or below R75's bound. -/
theorem quotient_le_bound (hp : p.Legal) {f : Word} (hf : inBand p f = true) (raw : Half) :
    f.toNat * raw.toNat / p.nominalHz ≤ raw.toNat * (2 * p.nominalHz - 1) / p.nominalHz := by
  have hfactor : f.toNat ≤ 2 * p.nominalHz - 1 := by
    obtain ⟨-, hhigh⟩ := (inBand_iff hp f).mp hf
    obtain ⟨-, htol⟩ := hp
    omega
  rw [Nat.mul_comm]
  exact Nat.div_le_div_right (Nat.mul_le_mul_left _ hfactor)

/-- The raw value itself is at or below R75's bound. -/
theorem raw_le_bound (hp : p.Legal) (raw : Half) :
    raw.toNat ≤ raw.toNat * (2 * p.nominalHz - 1) / p.nominalHz := by
  obtain ⟨hpos, -⟩ := hp
  rw [Nat.le_div_iff_mul_le hpos]
  exact Nat.mul_le_mul_left _ (by omega)

/-- R75's bound is below twice a positive raw value. -/
theorem bound_lt_double (hp : p.Legal) {raw : Half} (hraw : 0 < raw.toNat) :
    raw.toNat * (2 * p.nominalHz - 1) / p.nominalHz < 2 * raw.toNat := by
  obtain ⟨hpos, -⟩ := hp
  rw [Nat.div_lt_iff_lt_mul hpos]
  calc raw.toNat * (2 * p.nominalHz - 1)
      < raw.toNat * (2 * p.nominalHz) := Nat.mul_lt_mul_of_pos_left (by omega) hraw
    _ = 2 * raw.toNat * p.nominalHz := by ring

/-- R75's bound fits in 17 bits. -/
theorem bound_lt (hp : p.Legal) (raw : Half) :
    raw.toNat * (2 * p.nominalHz - 1) / p.nominalHz < 2 ^ 17 := by
  obtain hzero | hraw := Nat.eq_zero_or_pos raw.toNat
  · simp [hzero]
  · have hdouble := bound_lt_double hp hraw
    have hwidth := raw.isLt
    omega

/-- The value of the calibrator: the quotient in band does not wrap (R75, R76). -/
theorem calibrate_toNat (hp : p.Legal) (v : Bool) (f : Word) (raw : Half) :
    (calibrate p v f raw).toNat =
      if v = true ∧ inBand p f = true then f.toNat * raw.toNat / p.nominalHz else raw.toNat := by
  simp only [calibrate, Bool.and_eq_true]
  split
  next h =>
    have hfits : f.toNat * raw.toNat / p.nominalHz < 2 ^ 17 :=
      (quotient_le_bound hp h.2 raw).trans_lt (bound_lt hp raw)
    rw [BitVec.toNat_ofNat, Nat.mod_eq_of_lt (hfits.trans (by decide))]
  next => exact zext32_toNat raw

/-- R75: the calibrated value is at most the raw value times `2N - 1` over `N`. -/
theorem calibrate_le_bound (hp : p.Legal) (v : Bool) (f : Word) (raw : Half) :
    (calibrate p v f raw).toNat ≤ raw.toNat * (2 * p.nominalHz - 1) / p.nominalHz := by
  rw [calibrate_toNat hp]
  split
  next h => exact quotient_le_bound hp h.2 raw
  next => exact raw_le_bound hp raw

end

/-- Settles O27: the three cases of the calibrator's value, with the band over the integers. -/
theorem calibrateIsTheExactFloorInBandElseRaw : Obligations.CalibrateIsTheExactFloorInBandElseRaw := by
  intro p f raw hp
  rw [← inBand_iff hp, calibrate_toNat hp, calibrate_toNat hp]
  exact ⟨fun hin => if_pos ⟨rfl, hin⟩, fun hout => if_neg fun h => hout h.2, if_neg fun h => Bool.false_ne_true h.1⟩

/-- Settles O28: all three bounds are R75's bound on the value; the last line is a value of the test profile. -/
theorem calibratedValueFitsInSeventeenBits : Obligations.CalibratedValueFitsInSeventeenBits := by
  refine ⟨fun p v f raw hp => ?_, by decide⟩
  have hbound := calibrate_le_bound hp v f raw
  exact ⟨hbound, fun hraw => hbound.trans_lt (bound_lt_double hp hraw), hbound.trans_lt (bound_lt hp raw)⟩

end Sys2Proof.Proofs.Calibration

/-! The proofs of the family 41_configuration: START, by the whole state it leaves (R87); MODE, by what each command does
to it (R86); and the writes of the raw registers (R83 to R85). A run of commands keeps what each of its commands keeps. -/

namespace Sys2Proof.Proofs.Configuration

open Sys2Proof Sys2Proof.Machine Sys2Proof.Safety Sys2Proof.Laws Sys2Proof.Proofs.Scope
  Sys2Proof.Proofs.RegisterState Sys2Proof.Proofs.Memory Sys2Proof.Proofs.Calibration

/-! ### START (R87) -/

/-- Everything START does in CFG phase: the factor and its validity from the image, the active configuration calibrated
with them, the initial duty state, and LOAD's event where LOAD changes. -/
theorem commit_eq (s : State) :
    commit s = { s with
      calF := s.imgFactor
      calV := magicMatches s
      onCnt := calibrate s.params (magicMatches s) s.imgFactor s.rawOn
      offCnt := calibrate s.params (magicMatches s) s.imgFactor s.rawOff
      thr := calibrate s.params (magicMatches s) s.imgFactor s.rawThr
      duty := dutyOn
      dcnt := 0#32
      vcnt := 0#32
      latch := false
      load := true
      phase := .run
      events := s.events ++ if s.load = true then [] else [.loadOn] } := by
  rw [commit, setLoad_eq]
  rfl

theorem exec_start_of_run {s : State} (h : s.phase = .run) : exec .start s = .next s :=
  congrArg Host.Outcome.next (inPhase_of_ne (cfg_ne_of_run h))

/-- A raw value of 0 calibrates to 0, in band or not. -/
theorem calibrate_zero (p : Params) (v : Bool) (f : Word) : calibrate p v f 0#16 = 0#32 := by
  unfold calibrate
  split
  · simp
  · rfl

/-- Settles O30: from the reset state every raw value that START calibrates is 0. -/
theorem startCommitsTheCalibratedConfiguration : Obligations.StartCommitsTheCalibratedConfiguration := by
  refine ⟨decode_encode .start, fun s hcfg hload => ?_, fun s hrun => exec_start_of_run hrun,
    fun p _ => ⟨_, exec_start_of_cfg rfl, ?_⟩⟩
  · rw [exec_start_of_cfg hcfg, commit_eq, if_pos hload, List.append_nil]
    rfl
  · rw [commit_eq]
    exact ⟨calibrate_zero .., calibrate_zero .., calibrate_zero .., rfl⟩

/-! ### Runs of commands (R52) -/

theorem runCommands_cons_of_next {i : Instr} {s u : State} (h : exec i s = .next u) (is : List Instr) :
    runCommands (i :: is) s = runCommands is u := by
  rw [runCommands, h]

theorem runCommands_singleton (i : Instr) (s : State) : runCommands [i] s = exec i s := by
  rw [runCommands]
  cases exec i s <;> rfl

/-- A run that completes is a first command that completes, then the rest. -/
theorem runCommands_cons_eq_next_iff {i : Instr} {is : List Instr} {s t : State} :
    runCommands (i :: is) s = .next t ↔ ∃ u, exec i s = .next u ∧ runCommands is u = .next t := by
  rw [runCommands]
  cases exec i s <;> simp

/-- What every command of a run keeps, the run keeps. -/
theorem runCommands_keeps {P : State → Prop} {is : List Instr} {s t : State}
    (hkeep : ∀ i ∈ is, ∀ s t, P s → exec i s = .next t → P t) (hs : P s) (h : runCommands is s = .next t) : P t := by
  induction is generalizing s with
  | nil =>
    obtain rfl := Host.Outcome.next.inj h
    exact hs
  | cons i is ih =>
    obtain ⟨u, hfirst, hrest⟩ := runCommands_cons_eq_next_iff.mp h
    exact ih (fun j hj => hkeep j (.tail i hj)) (hkeep i (.head is) s u hs hfirst) hrest

/-! ### MODE (R86) -/

theorem actsIn_wrmode (m : FeatureMode) : ActsIn .cfg (fun s => { s with mode := m }) (.wrmode m) :=
  fun _ => rfl

@[simp] theorem commit_mode (s : State) : (commit s).mode = s.mode := setLoad_mode true _

theorem exec_start_mode {s t : State} (h : exec .start s = .next t) : t.mode = s.mode := by
  obtain rfl : inPhase .cfg commit s = t := Host.Outcome.next.inj h
  by_cases hcfg : s.phase = .cfg
  · rw [inPhase_of_eq hcfg, commit_mode]
  · rw [inPhase_of_ne hcfg]

theorem exec_tick_mode {s t : State} (h : exec .tick s = .next t) : t.mode = s.mode := by
  obtain rfl := Host.Outcome.next.inj h
  exact keepsOthers_inPhase (fun _ => keepsOthers_wakeTick s) .mode (by decide)

theorem exec_reset_mode {s t : State} (h : exec .reset s = .next t) : t.mode = .protectionOnly := by
  obtain rfl := Host.Outcome.next.inj h
  rfl

/-- The commands that are no write commands. -/
theorem eq_of_writeTarget_eq_none {i : Instr} (h : writeTarget i = none) :
    i = .nop ∨ i = .reset ∨ i = .start ∨ i = .tick := by
  cases i with
  | nop | reset | start | tick => simp
  | wrfac idx b => obtain rfl | rfl | rfl | rfl := index_cases idx <;> cases h
  | wrmag _ | wron _ | wroff _ | wrthr _ | wrmode _ => cases h

/-- No command but WRMODE and RESET changes MODE, whatever LATCH is. -/
theorem exec_mode {i : Instr} {s t : State} (hreset : i ≠ .reset) (hwrmode : ∀ m, i ≠ .wrmode m)
    (h : exec i s = .next t) : t.mode = s.mode := by
  cases hq : writeTarget i with
  | some q =>
    have hother : .mode ∉ [q] := by
      intro hmem
      obtain rfl := List.mem_singleton.mp hmem
      obtain ⟨m, rfl⟩ | rfl : (∃ m, i = .wrmode m) ∨ i = .reset := writer_writeTarget hq
      · exact hwrmode m rfl
      · exact hreset rfl
    exact keepsOthers_write hq h .mode hother
  | none =>
    obtain rfl | rfl | rfl | rfl := eq_of_writeTarget_eq_none hq
    · obtain rfl := Host.Outcome.next.inj h
      rfl
    · exact absurd rfl hreset
    · exact exec_start_mode h
    · exact exec_tick_mode h

/-- Without a WRMODE, ProtectionOnly stays: a RESET writes it again. -/
theorem exec_keeps_protectionOnly {i : Instr} {s t : State} (hwrmode : ∀ m, i ≠ .wrmode m)
    (hs : s.mode = .protectionOnly) (h : exec i s = .next t) : t.mode = .protectionOnly := by
  by_cases hreset : i = .reset
  · exact exec_reset_mode (hreset ▸ h)
  · exact (exec_mode hreset hwrmode h).trans hs

/-- Settles O25: RESET makes MODE ProtectionOnly, and each later command of the run keeps it. -/
theorem wrmodeWritesFeatureMode : Obligations.WrmodeWritesFeatureMode := by
  refine ⟨fun s m hcfg => (actsIn_wrmode m).exec_of_eq hcfg,
    fun s m hrun => (actsIn_wrmode m).exec_of_ne (cfg_ne_of_run hrun), fun _ _ => exec_reset_mode,
    fun _ _ => exec_start_mode, fun _ _ _ => exec_mode, fun is s t hno h => ?_,
    decode_encode (.wrmode .fullFeature), decode_encode (.wrmode .protectionOnly)⟩
  obtain ⟨u, hfirst, hrest⟩ := runCommands_cons_eq_next_iff.mp h
  have hwrmode : ∀ i ∈ is, ∀ m, i ≠ .wrmode m := fun i hi m him => hno m (him ▸ hi)
  exact runCommands_keeps (P := fun s => s.mode = .protectionOnly)
    (fun i hi _ _ => exec_keeps_protectionOnly (hwrmode i hi)) (exec_reset_mode hfirst) hrest

/-! ### The raw configuration registers (R83 to R85) -/

theorem actsIn_wron (n : Half) : ActsIn .cfg (fun s => { s with rawOn := n }) (.wron n) :=
  fun _ => rfl

theorem actsIn_wroff (n : Half) : ActsIn .cfg (fun s => { s with rawOff := n }) (.wroff n) :=
  fun _ => rfl

theorem actsIn_wrthr (n : Half) : ActsIn .cfg (fun s => { s with rawThr := n }) (.wrthr n) :=
  fun _ => rfl

/-- Of two commands of one phase the second alone counts, if the first leaves PHASE alone and the second overwrites all
that the first did. -/
theorem runCommands_overwrite {p : Phase} {f g : State → State} {i j : Instr} (hi : ActsIn p f i) (hj : ActsIn p g j)
    (hphase : ∀ s, (f s).phase = s.phase) (hover : ∀ s, g (f s) = g s) (s : State) :
    runCommands [i, j] s = exec j s := by
  by_cases hp : s.phase = p
  · rw [runCommands_cons_of_next (hi.exec_of_eq hp), runCommands_singleton,
      hj.exec_of_eq ((hphase s).trans hp), hover, hj.exec_of_eq hp]
  · rw [runCommands_cons_of_next (hi.exec_of_ne hp), runCommands_singleton]

/-- Settles O24: each of the three commands acts in CFG phase by one update of its own register. -/
theorem rawConfigurationWrites : Obligations.RawConfigurationWrites := by
  refine ⟨fun s n hcfg => ⟨(actsIn_wron n).exec_of_eq hcfg, (actsIn_wroff n).exec_of_eq hcfg,
      (actsIn_wrthr n).exec_of_eq hcfg⟩,
    fun s n hrun => ?_, fun s n m => ⟨?_, ?_, ?_⟩,
    fun n => ⟨decode_encode (.wron n), decode_encode (.wroff n), decode_encode (.wrthr n)⟩⟩
  · have hne := cfg_ne_of_run hrun
    exact ⟨(actsIn_wron n).exec_of_ne hne, (actsIn_wroff n).exec_of_ne hne, (actsIn_wrthr n).exec_of_ne hne⟩
  · exact runCommands_overwrite (actsIn_wron n) (actsIn_wron m) (fun _ => rfl) (fun _ => rfl) s
  · exact runCommands_overwrite (actsIn_wroff n) (actsIn_wroff m) (fun _ => rfl) (fun _ => rfl) s
  · exact runCommands_overwrite (actsIn_wrthr n) (actsIn_wrthr m) (fun _ => rfl) (fun _ => rfl) s

end Sys2Proof.Proofs.Configuration

/-! The proofs of the family 42_tick: the monitor (R93 to R97) and the state machine (R99 to R103). A TICK in RUN phase is
the monitor's closed form and then the state machine's; the first layer says of each of the two which fields it writes and
what it does in each of its cases. -/

namespace Sys2Proof.Proofs.Tick

open Sys2Proof Sys2Proof.Machine Sys2Proof.Safety Sys2Proof.Laws Sys2Proof.Proofs.RegisterState

theorem exec_tick_of_run {s : State} (h : s.phase = .run) : exec .tick s = .next (dutyOutcome (monitorOutcome s)) := by
  rw [← wakeTick_eq, ← inPhase_of_eq (f := wakeTick) h]
  rfl

theorem eq_of_exec_tick {s t : State} (hrun : s.phase = .run) (h : exec .tick s = .next t) :
    t = dutyOutcome (monitorOutcome s) :=
  Host.Outcome.next.inj (h.symm.trans (exec_tick_of_run hrun))

/-- The event of a change of LOAD from `old` to `new`; none where LOAD keeps its value (R14). -/
def loadChange (old new : Bool) : List Event :=
  if old = new then [] else [if new then .loadOn else .loadOff]

@[simp] theorem loadChange_self (x : Bool) : loadChange x x = [] := if_pos rfl

theorem loadChange_cases (old new : Bool) :
    loadChange old new = [] ∨ loadChange old new = [.loadOff] ∨ loadChange old new = [.loadOn] := by
  cases old <;> cases new <;> simp [loadChange]

/-! ### The readings of a window (R95, R96) -/

theorem readingSum_lt (s : State) : readingSum s < 2 ^ 15 := by
  have each : ∀ x ∈ (upcoming Config.sampleCount s).map BitVec.toNat, x ≤ 1023 := by
    intro x hx
    obtain ⟨r, -, rfl⟩ := List.mem_map.mp hx
    exact Nat.le_of_lt_succ r.isLt
  have total : readingSum s ≤ 32 * 1023 := by
    simpa [readingSum, upcoming_length, Config.sampleCount, Config.log2n] using List.sum_le_card_nsmul _ _ each
  omega

theorem readingMean_lt (s : State) : readingMean s < 2 ^ 10 :=
  Nat.div_lt_of_lt_mul (readingSum_lt s)

theorem windowEvents_length (s : State) : (windowEvents s).length = 34 := by
  simp [windowEvents, upcoming_length, Config.sampleCount, Config.log2n]

/-! ### The monitor (R93 to R98) -/

/-- The monitor writes its own registers, LOAD and the sense environment, and none of the state machine's. -/
theorem monitorOutcome_writes (s : State) :
    monitorOutcome s = { s with
      vcnt := (monitorOutcome s).vcnt, latch := (monitorOutcome s).latch, load := (monitorOutcome s).load
      senseEn := (monitorOutcome s).senseEn, sense := (monitorOutcome s).sense
      senseDraws := (monitorOutcome s).senseDraws, events := (monitorOutcome s).events } := by
  obtain ⟨-, hout⟩ | ⟨-, -, hout⟩ | ⟨-, -, -, hout⟩ | ⟨-, -, -, hout⟩ := monitorOutcome_cases s
  all_goals rw [hout]
  · rfl
  · rfl

@[simp] theorem monitorOutcome_mode (s : State) : (monitorOutcome s).mode = s.mode := by
  rw [monitorOutcome_writes]

@[simp] theorem monitorOutcome_duty (s : State) : (monitorOutcome s).duty = s.duty := by
  rw [monitorOutcome_writes]

@[simp] theorem monitorOutcome_dcnt (s : State) : (monitorOutcome s).dcnt = s.dcnt := by
  rw [monitorOutcome_writes]

@[simp] theorem monitorOutcome_onCnt (s : State) : (monitorOutcome s).onCnt = s.onCnt := by
  rw [monitorOutcome_writes]

@[simp] theorem monitorOutcome_offCnt (s : State) : (monitorOutcome s).offCnt = s.offCnt := by
  rw [monitorOutcome_writes]

theorem monitorOutcome_of_off {s : State} (h : s.load = false) : monitorOutcome s = s :=
  if_pos h

theorem monitorOutcome_of_on {s : State} (h : s.load = true) :
    monitorOutcome s =
      if ¬ Boundary s then { s with vcnt := s.vcnt + 1#32 }
      else if readingMean s < s.thr.toNat then
        { afterWindow s with load := false, latch := true, events := s.events ++ windowEvents s ++ [.loadOff] }
      else afterWindow s := by
  rw [monitorOutcome, if_neg (by simp [h])]

theorem monitorOutcome_vcnt_of_on {s : State} (h : s.load = true) :
    (monitorOutcome s).vcnt = if Boundary s then 0#32 else s.vcnt + 1#32 := by
  rw [monitorOutcome_of_on h]
  split_ifs <;> rfl

/-- Only a trip writes LOAD, and a trip latches (R98). -/
theorem monitorOutcome_load {s : State} (h : (monitorOutcome s).latch = false) : (monitorOutcome s).load = s.load := by
  obtain ⟨-, hout⟩ | ⟨-, -, hout⟩ | ⟨-, -, -, hout⟩ | ⟨-, -, -, hout⟩ := monitorOutcome_cases s
  all_goals rw [hout] at h ⊢
  · exact Bool.noConfusion h
  · rfl

theorem monitorOutcome_events_append (s : State) : ∃ ev, (monitorOutcome s).events = s.events ++ ev := by
  obtain ⟨-, hout⟩ | ⟨-, -, hout⟩ | ⟨-, -, -, hout⟩ | ⟨-, -, -, hout⟩ := monitorOutcome_cases s
  all_goals rw [hout]
  · exact ⟨[], (List.append_nil _).symm⟩
  · exact ⟨[], (List.append_nil _).symm⟩
  · exact ⟨_, List.append_assoc ..⟩
  · exact ⟨_, rfl⟩

/-- What a boundary does besides VCNT and LATCH, trip or no trip: one whole window, then the event of a cut of LOAD. -/
theorem monitorOutcome_of_boundary {s : State} (hon : s.load = true) (hb : Boundary s) :
    (monitorOutcome s).events = s.events ++ windowEvents s ++ loadChange true (monitorOutcome s).load ∧
      (monitorOutcome s).senseEn = false ∧ (monitorOutcome s).sense = s.sense.drop 32 ∧
      (monitorOutcome s).senseDraws = s.senseDraws + (32 - s.sense.length) := by
  rw [monitorOutcome_of_on hon, if_neg (not_not.2 hb)]
  split_ifs
  · exact ⟨rfl, rfl, rfl, rfl⟩
  · have hload : (afterWindow s).load = true := hon
    rw [hload, loadChange_self, List.append_nil]
    exact ⟨rfl, rfl, rfl, rfl⟩

/-- MODE does not gate the monitor (R93). -/
theorem monitorOutcome_mode_comm (s : State) (m : FeatureMode) :
    monitorOutcome { s with mode := m } = { monitorOutcome s with mode := m } := by
  have hup : upcoming Config.sampleCount { s with mode := m } = upcoming Config.sampleCount s :=
    upcoming_congr _ rfl rfl
  have hmean : readingMean { s with mode := m } = readingMean s := by rw [readingMean, readingSum, hup]; rfl
  have hwindow : windowEvents { s with mode := m } = windowEvents s := by rw [windowEvents, hup]; rfl
  simp only [monitorOutcome, afterWindow, hmean, hwindow]
  split_ifs <;> rfl

/-! ### The state machine (R99 to R103) -/

/-- The state machine writes DUTY, DCNT and LOAD, and none of the monitor's registers. -/
theorem dutyOutcome_writes (s : State) :
    dutyOutcome s = { s with
      duty := (dutyOutcome s).duty, dcnt := (dutyOutcome s).dcnt, load := (dutyOutcome s).load
      events := (dutyOutcome s).events } := by
  obtain ⟨-, hout⟩ | ⟨-, -, ⟨-, -, hout⟩ | ⟨-, -, hout⟩ | ⟨-, -, hout⟩ | ⟨-, -, hout⟩ | ⟨-, -, hout⟩⟩ :=
    dutyOutcome_cases s
  all_goals rw [hout]

@[simp] theorem dutyOutcome_vcnt (s : State) : (dutyOutcome s).vcnt = s.vcnt := by
  rw [dutyOutcome_writes]

@[simp] theorem dutyOutcome_senseEn (s : State) : (dutyOutcome s).senseEn = s.senseEn := by
  rw [dutyOutcome_writes]

@[simp] theorem dutyOutcome_sense (s : State) : (dutyOutcome s).sense = s.sense := by
  rw [dutyOutcome_writes]

@[simp] theorem dutyOutcome_senseDraws (s : State) : (dutyOutcome s).senseDraws = s.senseDraws := by
  rw [dutyOutcome_writes]

/-- The state machine emits nothing but the event of its change of LOAD. -/
theorem dutyOutcome_events (s : State) :
    (dutyOutcome s).events = s.events ++ loadChange s.load (dutyOutcome s).load := by
  obtain ⟨-, hout⟩ | ⟨-, -, ⟨-, -, hout⟩ | ⟨-, -, hout⟩ | ⟨-, -, hout⟩ | ⟨-, -, hout⟩ | ⟨-, -, hout⟩⟩ :=
    dutyOutcome_cases s
  all_goals
    rw [hout]
    cases s.load <;> simp [loadChange]

theorem dutyOutcome_of_gated {s : State} (h : s.mode = .protectionOnly ∨ s.latch = true) : dutyOutcome s = s :=
  if_pos h

section
variable {s : State} (hfull : s.mode = .fullFeature) (hfree : s.latch = false)
include hfull hfree

theorem not_gated : ¬ (s.mode = .protectionOnly ∨ s.latch = true) := by
  simp [hfull, hfree]

theorem dutyOutcome_of_on (hon : s.duty = dutyOn) :
    dutyOutcome s =
      if s.onCnt.toNat ≤ (s.dcnt.toNat + 1) % 2 ^ 32 then
        { s with duty := dutyOff, dcnt := 0#32, load := false,
                 events := s.events ++ if s.load then [.loadOff] else [] }
      else { s with dcnt := s.dcnt + 1#32 } := by
  rw [dutyOutcome, if_neg (not_gated hfull hfree), if_pos hon]

theorem dutyOutcome_of_off (hoff : s.duty = dutyOff) :
    dutyOutcome s =
      if s.offCnt.toNat ≤ (s.dcnt.toNat + 1) % 2 ^ 32 then
        { s with duty := dutyOn, dcnt := 0#32, load := true,
                 events := s.events ++ if s.load then [] else [.loadOn] }
      else { s with dcnt := s.dcnt + 1#32 } := by
  have hne : s.duty ≠ dutyOn := by rw [hoff]; decide
  rw [dutyOutcome, if_neg (not_gated hfull hfree), if_neg hne, if_pos hoff]

theorem dutyOutcome_of_unrecognized (hon : s.duty ≠ dutyOn) (hoff : s.duty ≠ dutyOff) :
    dutyOutcome s =
      { s with duty := dutyOff, dcnt := 0#32, load := false,
               events := s.events ++ if s.load then [.loadOff] else [] } := by
  rw [dutyOutcome, if_neg (not_gated hfull hfree), if_neg hon, if_neg hoff]

end

/-! ### The monitor in a TICK -/

/-- Settles O37: the state machine leaves the monitor's registers and the sense environment alone, so the monitor's closed
form decides each clause. -/
theorem monitorRunsExactlyWhileEnergized : Obligations.MonitorRunsExactlyWhileEnergized := by
  intro s t hrun h
  obtain rfl := eq_of_exec_tick hrun h
  simp only [dutyOutcome_vcnt, dutyOutcome_latch, dutyOutcome_sense, dutyOutcome_senseDraws]
  refine ⟨fun hoff => ?_, monitorOutcome_vcnt_of_on, fun _ m u hu => ?_⟩
  · rw [monitorOutcome_of_off hoff]
    refine ⟨rfl, rfl, rfl, rfl, _, dutyOutcome_events s, fun e he => ?_⟩
    obtain hnone | hcut | hon := loadChange_cases s.load (dutyOutcome s).load
    · simp [hnone] at he
    · exact .inr (by simpa [hcut] using he)
    · exact .inl (by simpa [hon] using he)
  · obtain rfl := eq_of_exec_tick (s := { s with mode := m }) hrun hu
    simp [dutyOutcome_latch, monitorOutcome_mode_comm]

/-- After a boundary's window at most one LOAD event follows: a trip's cut gates the state machine off. -/
theorem tick_events_of_boundary {s : State} (hon : s.load = true) (hb : Boundary s) :
    (dutyOutcome (monitorOutcome s)).events =
      s.events ++ windowEvents s ++ loadChange true (dutyOutcome (monitorOutcome s)).load := by
  obtain ⟨hevents, -⟩ := monitorOutcome_of_boundary hon hb
  cases hlatch : (monitorOutcome s).latch with
  | true => rw [dutyOutcome_of_gated (.inr hlatch), hevents]
  | false => rw [dutyOutcome_events, hevents, monitorOutcome_load hlatch, hon, loadChange_self, List.append_nil]

/-- Settles O38: the window is the monitor's, and the state machine adds at most the LOAD event after it. -/
theorem boundaryTickTakesOneSamplingWindow : Obligations.BoundaryTickTakesOneSamplingWindow := by
  intro s t hrun hon hb h
  obtain rfl := eq_of_exec_tick hrun h
  obtain ⟨-, hen, hsense, hdraws⟩ := monitorOutcome_of_boundary hon hb
  rw [dutyOutcome_senseEn, dutyOutcome_sense, dutyOutcome_senseDraws]
  exact ⟨⟨_, tick_events_of_boundary hon hb, loadChange_cases ..⟩, windowEvents_length s, hen, hsense, hdraws,
    readingSum_lt s, rfl, readingMean_lt s⟩

/-- Settles O39: LATCH follows the comparator, and a mean of 10-bit readings lies in [0, 2^10). -/
theorem sampleTripsExactlyStrictlyBelowThreshold : Obligations.SampleTripsExactlyStrictlyBelowThreshold := by
  intro s t hrun hon hfree hb h
  obtain rfl := eq_of_exec_tick hrun h
  have htrip : (dutyOutcome (monitorOutcome s)).latch = true ↔ readingMean s < s.thr.toNat := by
    rw [dutyOutcome_latch, monitorOutcome_latch]
    simp only [hfree, ComparatorTrips, hon, hb, true_and, Bool.false_eq_true, false_or]
  refine ⟨htrip, fun hzero => ?_, fun hbig => htrip.2 ((readingMean_lt s).trans_le hbig)⟩
  rw [← Bool.not_eq_true, htrip, hzero]
  exact Nat.not_lt_zero _

/-! ### The state machine in a TICK -/

/-- Settles O41: after the monitor the gate decides; in each case of an evaluation DCNT counts and DUTY stays, or DCNT
restarts and DUTY changes. -/
theorem stateMachineRunsExactlyInFullFeatureUnlatched : Obligations.StateMachineRunsExactlyInFullFeatureUnlatched := by
  intro s t hrun h
  obtain rfl := eq_of_exec_tick hrun h
  rw [dutyOutcome_latch]
  refine ⟨fun hgate => ?_, fun hfull hfree => ?_⟩
  · rw [dutyOutcome_of_gated (by rwa [monitorOutcome_mode])]
    exact ⟨monitorOutcome_duty s, monitorOutcome_dcnt s, rfl⟩
  · have hne : dutyOff ≠ dutyOn := by decide
    have count : (s.dcnt + 1#32).toNat = (s.dcnt.toNat + 1) % 2 ^ 32 := BitVec.toNat_add ..
    obtain ⟨hgate, -⟩ | ⟨-, -, hcase⟩ := dutyOutcome_cases (monitorOutcome s)
    · exact absurd hgate (not_gated (by rwa [monitorOutcome_mode]) hfree)
    · rw [monitorOutcome_duty, monitorOutcome_dcnt] at hcase
      obtain ⟨hon, -, hout⟩ | ⟨-, -, hout⟩ | ⟨hoff, -, hout⟩ | ⟨-, -, hout⟩ | ⟨-, hoff, hout⟩ := hcase
      all_goals rw [hout]
      · exact .inr ⟨rfl, fun heq => hne (heq.trans hon)⟩
      · exact .inl ⟨count, rfl⟩
      · exact .inr ⟨rfl, fun heq => hne (heq.trans hoff).symm⟩
      · exact .inl ⟨count, rfl⟩
      · exact .inr ⟨rfl, hoff.symm⟩

/-- Settles O42: without a trip the monitor hands LOAD on, and its events come before LOAD_OFF. -/
theorem onStateLeavesAtTheOnCount : Obligations.OnStateLeavesAtTheOnCount := by
  intro s t hrun hfull hon h hfree
  obtain rfl := eq_of_exec_tick hrun h
  rw [dutyOutcome_latch] at hfree
  have hload := monitorOutcome_load hfree
  obtain ⟨ev, hev⟩ := monitorOutcome_events_append s
  rw [dutyOutcome_of_on ((monitorOutcome_mode s).trans hfull) hfree ((monitorOutcome_duty s).trans hon)]
  simp only [monitorOutcome_onCnt, monitorOutcome_dcnt, hload, hev]
  refine ⟨fun hreach => ?_, fun hbelow => ?_⟩
  · rw [if_pos hreach]
    exact ⟨rfl, rfl, rfl, fun henergized => ⟨ev, by rw [if_pos henergized]⟩⟩
  · rw [if_neg hbelow.not_ge]
    exact ⟨(monitorOutcome_duty s).trans hon, rfl, rfl⟩

/-- Settles O43: with the load off the monitor does nothing, so LOAD_ON is the tick's one event. -/
theorem offStateLeavesAtTheOffCount : Obligations.OffStateLeavesAtTheOffCount := by
  intro s t hrun hfull hoff h hfree
  obtain rfl := eq_of_exec_tick hrun h
  rw [dutyOutcome_latch] at hfree
  have hload := monitorOutcome_load hfree
  rw [dutyOutcome_of_off ((monitorOutcome_mode s).trans hfull) hfree ((monitorOutcome_duty s).trans hoff)]
  simp only [monitorOutcome_offCnt, monitorOutcome_dcnt, hload]
  refine ⟨fun hreach => ?_, fun hbelow => ?_⟩
  · rw [if_pos hreach]
    refine ⟨rfl, rfl, rfl, fun hcut => ?_⟩
    rw [monitorOutcome_of_off hcut, if_neg (Bool.eq_false_iff.1 hcut)]
  · rw [if_neg hbelow.not_ge]
    exact ⟨(monitorOutcome_duty s).trans hoff, rfl, rfl⟩

/-- An unrecognized DUTY that a TICK in RUN phase evaluates recovers to OFF (R103). -/
theorem tick_of_unrecognized {s : State} (hon : s.duty ≠ dutyOn) (hoff : s.duty ≠ dutyOff) (hfull : s.mode = .fullFeature)
    (hfree : (monitorOutcome s).latch = false) :
    dutyOutcome (monitorOutcome s) =
      { monitorOutcome s with duty := dutyOff, dcnt := 0#32, load := false,
                              events := (monitorOutcome s).events ++ if s.load then [.loadOff] else [] } := by
  rw [← monitorOutcome_duty s] at hon hoff
  rw [dutyOutcome_of_unrecognized ((monitorOutcome_mode s).trans hfull) hfree hon hoff, monitorOutcome_load hfree]

/-- Settles O44: the recovery where the state machine runs; gated off it leaves DUTY alone. -/
theorem unrecognizedDutyRecoversToOff : Obligations.UnrecognizedDutyRecoversToOff := by
  refine ⟨fun s t hrun hon hoff h => ?_, fun s hrun hduty hdcnt hload hfull hfree hin => ?_⟩
  · obtain rfl := eq_of_exec_tick hrun h
    rw [dutyOutcome_latch]
    refine ⟨fun hfull hfree => ?_, fun hgate => ?_⟩
    · obtain ⟨ev, hev⟩ := monitorOutcome_events_append s
      rw [tick_of_unrecognized hon hoff hfull hfree]
      refine ⟨rfl, rfl, rfl, fun henergized => ⟨ev, ?_⟩, fun hcut => ?_⟩
      · rw [if_pos henergized, hev]
      · rw [if_neg (Bool.eq_false_iff.1 hcut), monitorOutcome_of_off hcut, List.append_nil]
    · have hgated : (monitorOutcome s).mode = .protectionOnly ∨ (monitorOutcome s).latch = true :=
        hgate.imp (monitorOutcome_mode s).trans fun hlatch => (monitorOutcome_latch s).2 (.inl hlatch)
      rw [dutyOutcome_of_gated hgated, monitorOutcome_duty]
  · have hcount : monitorOutcome s = { s with vcnt := s.vcnt + 1#32 } :=
      (monitorOutcome_of_on hload).trans (if_pos hin)
    have hon : s.duty ≠ dutyOn := by rw [hduty]; decide
    have hoff : s.duty ≠ dutyOff := by rw [hduty]; decide
    rw [exec_tick_of_run hrun, tick_of_unrecognized hon hoff hfull (by rw [hcount]; exact hfree), hcount, if_pos hload]

end Sys2Proof.Proofs.Tick

/-! The proofs of the family 43_control: NOP (R110), RESET (R111), an ILLEGAL word on the command port (R112) and the phase
a command acts in (R113). Every write has an effect in CFG phase because it forgets the value it overwrites: it takes two
states to one, so one of the two moves. -/

namespace Sys2Proof.Proofs.Control

open Sys2Proof Sys2Proof.Machine Sys2Proof.Safety Sys2Proof.Laws Sys2Proof.Proofs.Scope
  Sys2Proof.Proofs.RegisterState Sys2Proof.Proofs.Encoding Sys2Proof.Proofs.Calibration
  Sys2Proof.Proofs.Configuration Sys2Proof.Proofs.Tick

/-! ### RESET (R111) -/

/-- With SENSE_EN = 0 a reset emits LOAD's event or nothing; what is no register and no event stays. -/
theorem applyReset_of_senseOff {s : State} (h : s.senseEn = false) :
    applyReset s = { State.reset with
      openParams := s.openParams, host := s.host, sense := s.sense, senseDraws := s.senseDraws, readData := s.readData,
      events := s.events ++ if s.load then [] else [.loadOn] } := by
  rw [applyReset_eq, if_neg (Bool.eq_false_iff.mp h), List.append_nil]

/-- STATUS after a reset shows LOAD = 1 and DUTY ON, the rest 0 (R32, R132). -/
theorem applyReset_statusWord (s : State) : (applyReset s).statusWord = 0x00000005#32 :=
  calc (applyReset s).statusWord
    _ = State.reset.statusWord := by rw [applyReset_eq]; rfl
    _ = 0x00000005#32 := by decide

/-- No command but RESET clears LATCH: the others hold it, or the comparator sets it (R27). -/
theorem eq_reset_of_clears_latch {i : Instr} {s t : State} (hquiet : s.phase = .cfg → s.latch = false)
    (hset : s.latch = true) (h : exec i s = .next t) (hclear : t.latch = false) : i = .reset := by
  by_contra hi
  obtain hheld | ⟨-, -, hagain⟩ := exec_latch h hi hquiet
  · exact Bool.false_ne_true (hclear.symm.trans (hheld.trans hset))
  · exact Bool.false_ne_true (hclear.symm.trans hagain)

/-- Settles O18, from the whole state a reset leaves and from what the other commands do to LATCH. -/
theorem resetCommandRestoresTheResetState : Obligations.ResetCommandRestoresTheResetState := by
  refine ⟨decode_encode .reset, fun s => (exec_reset s).symm, fun _ _ _ => eq_reset_of_clears_latch,
    fun s hsense => ⟨?_, fun t h => ?_⟩⟩
  · rw [exec_reset, applyReset_of_senseOff hsense]
  · obtain rfl := Host.Outcome.next.inj ((exec_reset s).symm.trans h)
    exact applyReset_statusWord s

/-! ### The phase a command acts in (R113) -/

theorem run_ne_of_cfg {s : State} (h : s.phase = .cfg) : s.phase ≠ .run := by
  simp [h]

theorem exec_nop (s : State) : exec .nop s = .next s := rfl

theorem actsIn_tick : ActsIn .run wakeTick .tick := fun _ => rfl

/-- Every write command acts in CFG phase (R17, R113). -/
theorem actsIn_cfg_of_writeTarget {i : Instr} (h : writeTarget i ≠ none) : ∃ f, ActsIn .cfg f i := by
  cases i with
  | nop | reset | start | tick => exact absurd rfl h
  | wrfac idx b => exact ⟨_, actsIn_wrfac idx b⟩
  | wrmag b => exact ⟨_, actsIn_wrmag b⟩
  | wron n => exact ⟨_, actsIn_wron n⟩
  | wroff n => exact ⟨_, actsIn_wroff n⟩
  | wrthr n => exact ⟨_, actsIn_wrthr n⟩
  | wrmode m => exact ⟨_, actsIn_wrmode m⟩

/-- The command `i` changes some state of phase `p`. -/
def HasEffectIn (p : Phase) (i : Instr) : Prop := ∃ s t, s.phase = p ∧ exec i s = .next t ∧ t ≠ s

/-- A command of CFG phase that takes another state where it takes the reset state moves one of the two. -/
theorem hasEffectIn_cfg_of_forgets {f : State → State} {i : Instr} (h : ActsIn .cfg f i) {s : State}
    (hs : s.phase = .cfg) (hforgets : f s = f State.reset) (hne : s ≠ State.reset) : HasEffectIn .cfg i := by
  by_cases hfix : f s = s
  · exact ⟨State.reset, _, rfl, h.exec_of_eq rfl, fun hfixed => hne (hfix.symm.trans (hforgets.trans hfixed))⟩
  · exact ⟨s, _, hs, h.exec_of_eq hs, hfix⟩

/-- A write forgets what its target held; each case names a state that differs from the reset state there. -/
theorem hasEffectIn_cfg_of_writeTarget {i : Instr} (h : writeTarget i ≠ none) : HasEffectIn .cfg i := by
  cases i with
  | nop | reset | start | tick => exact absurd rfl h
  | wrfac idx b =>
    refine hasEffectIn_cfg_of_forgets (actsIn_wrfac idx b) (s := State.reset.setImgByte idx 1#8) ?_
      (setImgByte_setImgByte _ idx _ b) ?_
    all_goals obtain rfl | rfl | rfl | rfl := index_cases idx <;> decide
  | wrmag b => exact hasEffectIn_cfg_of_forgets (actsIn_wrmag b) (s := { State.reset with img4 := 1#8 }) rfl rfl (by decide)
  | wron n => exact hasEffectIn_cfg_of_forgets (actsIn_wron n) (s := { State.reset with rawOn := 1#16 }) rfl rfl (by decide)
  | wroff n => exact hasEffectIn_cfg_of_forgets (actsIn_wroff n) (s := { State.reset with rawOff := 1#16 }) rfl rfl (by decide)
  | wrthr n => exact hasEffectIn_cfg_of_forgets (actsIn_wrthr n) (s := { State.reset with rawThr := 1#16 }) rfl rfl (by decide)
  | wrmode m =>
    exact hasEffectIn_cfg_of_forgets (actsIn_wrmode m) (s := { State.reset with mode := .fullFeature }) rfl rfl (by decide)

/-- START in CFG phase leaves it. -/
theorem hasEffectIn_start : HasEffectIn .cfg .start :=
  ⟨State.reset, _, rfl, exec_start_of_cfg rfl, fun hfix => cfg_ne_of_run (hfix ▸ commit_phase State.reset) rfl⟩

/-- RESET moves every state that is not reset already. -/
theorem hasEffectIn_reset {p : Phase} {s : State} (hp : s.phase = p) (h : ¬ RegistersReset s) : HasEffectIn p .reset :=
  ⟨s, _, hp, exec_reset s, fun hfix => h (hfix ▸ registersReset_applyReset s)⟩

/-- While the load is energized every TICK in RUN phase moves VCNT: it counts, or it restarts from a count above 0. -/
theorem exec_tick_vcnt_ne {s t : State} (hrun : s.phase = .run) (hon : s.load = true) (h : exec .tick s = .next t) :
    t.vcnt ≠ s.vcnt := by
  obtain rfl := eq_of_exec_tick hrun h
  rw [dutyOutcome_vcnt, monitorOutcome_vcnt_of_on hon]
  split_ifs with hb
  · intro hzero
    rw [Boundary, ← hzero] at hb
    exact absurd hb (by decide)
  · exact fun hheld => absurd hheld (by bv_omega)

theorem hasEffectIn_tick : HasEffectIn .run .tick := by
  have hrun : { State.reset with phase := .run }.phase = .run := rfl
  exact ⟨_, _, hrun, exec_tick_of_run hrun,
    fun hfix => exec_tick_vcnt_ne hrun rfl (exec_tick_of_run hrun) (congrArg State.vcnt hfix)⟩

/-- Settles O33: out of its phase `ActsIn` leaves the state, and each accepting cell has a state that moves. -/
theorem outOfPhaseCommandsAreIgnored : Obligations.OutOfPhaseCommandsAreIgnored := by
  refine ⟨fun s i hrun hi => ?_, fun s hcfg => actsIn_tick.exec_of_ne (run_ne_of_cfg hcfg), fun i hi => ?_,
    fun i hi => ?_, exec_nop⟩
  · obtain hwrite | rfl := hi
    · obtain ⟨f, hf⟩ := actsIn_cfg_of_writeTarget hwrite
      exact hf.exec_of_ne (cfg_ne_of_run hrun)
    · exact exec_start_of_run hrun
  · obtain hwrite | rfl | rfl := hi
    · exact hasEffectIn_cfg_of_writeTarget hwrite
    · exact hasEffectIn_start
    · exact hasEffectIn_reset (s := { State.reset with rawOn := 1#16 }) rfl (by simp [RegistersReset])
  · obtain rfl | rfl := hi
    · exact hasEffectIn_tick
    · exact hasEffectIn_reset (s := { State.reset with phase := .run }) rfl (by simp [RegistersReset])

/-! ### The command port (R110, R112) -/

/-- Settles O10: the offered word is the step's one input, and as an ILLEGAL word it leaves the begun state. -/
theorem stepIgnoresAnIllegalWord : Obligations.StepIgnoresAnIllegalWord :=
  ⟨fun _ _ _ _ hhost hw => (step_input hhost).trans (execWord_of_illegal hw _), ⟨_, rfl⟩, ⟨_, rfl⟩⟩

/-- Settles O17: NOP's word is the encoder's, and its meaning is the state itself. -/
theorem nopChangesNothing : Obligations.NopChangesNothing :=
  ⟨decode_encode .nop, exec_nop⟩

end Sys2Proof.Proofs.Control

/-! The proofs of the family 60_exceptions: nothing makes a step fail (R116), from the commands up through the command
port and the other actions of the outside world; and the block holds its state while nothing is offered (R131). -/

namespace Sys2Proof.Proofs.Exceptions

open Sys2Proof Sys2Proof.Machine Sys2Proof.Laws

/-! ### Every step completes (R116) -/

/-- Every arm of `exec` answers a next state, in either phase. -/
theorem exec_completes (i : Instr) (s : State) : ∃ t, exec i s = .next t := by
  cases i <;> exact ⟨_, rfl⟩

theorem execWord_completes (w : Word) (s : State) : ∃ t, execWord w s = .next t := by
  obtain ⟨i, -, hrun⟩ | ⟨_, -, hignored⟩ := execWord_cases w s
  · rw [hrun]
    exact exec_completes i s
  · exact ⟨s, hignored⟩

/-- A status read during a command and a reset that ends one change the command's next state; they take none away. -/
theorem mapNext_execWord_completes (f : State → State) (w : Word) (s : State) :
    ∃ t, mapNext f (execWord w s) = .next t := by
  obtain ⟨t, ht⟩ := execWord_completes w s
  exact ⟨f t, by rw [ht, mapNext_next]⟩

theorem runInput_completes (x : HostInput) (s : State) : ∃ t, runInput x s = .next t := by
  cases x with
  | command w => exact execWord_completes w s
  | commandStatusRead w a seen => exact mapNext_execWord_completes _ w s
  | commandReset w n => exact mapNext_execWord_completes _ w s
  | statusRead | resetInput | powerOn => exact ⟨_, rfl⟩

theorem step_completes (s : State) : ∃ t, step s = .next t := by
  cases hhost : s.host with
  | nil => exact ⟨_, step_idle hhost⟩
  | cons x rest =>
    rw [step_input hhost]
    exact runInput_completes x _

/-- Settles O11, from each layer of the step in turn; the type of the faults has no constructor. -/
theorem everyStepCompletesWithANextState : Obligations.EveryStepCompletesWithANextState :=
  ⟨step_completes, exec_completes, execWord_completes, fun r => nomatch r⟩

/-! ### The idle step (R131) -/

/-- Settles O12: with no action listed a step only begins, which clears the last step's events and status data. -/
theorem idleStepHoldsTheState : Obligations.IdleStepHoldsTheState :=
  fun _ => step_idle

end Sys2Proof.Proofs.Exceptions

/-! The proofs of the family 70_reset_and_hazards: one action a step (R138), a reset from every source (R132), the events of
a command that the reset input ends (93_implementation_defined), and a status read during a command (R140). The last rests
on one notion: a status location, or a field or bit of one, that shows a single register. -/

namespace Sys2Proof.Proofs.ResetAndHazards

open Sys2Proof Sys2Proof.Machine Sys2Proof.Safety Sys2Proof.Laws Sys2Proof.Proofs.Scope
  Sys2Proof.Proofs.RegisterState Sys2Proof.Proofs.Configuration Sys2Proof.Proofs.Tick
  Sys2Proof.Proofs.Memory Sys2Proof.Proofs.Encoding Sys2Proof.Proofs.Exceptions

/-! ### What the block does not write: the host's list and the parameters (R7, R138) -/

/-- The actions still to come and the parameters are in `t` what they are in `s`. -/
def KeepsOutside (s t : State) : Prop := t.host = s.host ∧ t.openParams = s.openParams

theorem keepsOutside_refl (s : State) : KeepsOutside s s := ⟨rfl, rfl⟩

theorem KeepsOutside.trans {s t u : State} (hst : KeepsOutside s t) (htu : KeepsOutside t u) : KeepsOutside s u :=
  ⟨htu.1.trans hst.1, htu.2.trans hst.2⟩

theorem keepsOutside_applyReset (s : State) : KeepsOutside s (applyReset s) := by
  rw [applyReset_eq]
  exact ⟨rfl, rfl⟩

theorem keepsOutside_setImgByte (s : State) (i : BitVec 2) (b : Byte) : KeepsOutside s (s.setImgByte i b) := by
  obtain rfl | rfl | rfl | rfl := index_cases i <;> exact ⟨rfl, rfl⟩

theorem keepsOutside_commit (s : State) : KeepsOutside s (commit s) := by
  rw [commit_eq]
  exact ⟨rfl, rfl⟩

theorem keepsOutside_wakeTick (s : State) : KeepsOutside s (wakeTick s) := by
  have hmonitor : KeepsOutside s (monitorOutcome s) := by
    rw [monitorOutcome_writes]
    exact ⟨rfl, rfl⟩
  have hduty : KeepsOutside (monitorOutcome s) (dutyOutcome (monitorOutcome s)) := by
    rw [dutyOutcome_writes]
    exact ⟨rfl, rfl⟩
  rw [wakeTick_eq]
  exact hmonitor.trans hduty

/-- In its phase the command does what `f` does; in the other it is ignored. -/
theorem keepsOutside_inPhase {p : Phase} {f : State → State} {s : State} (hf : KeepsOutside s (f s)) :
    KeepsOutside s (inPhase p f s) := by
  by_cases hp : s.phase = p
  · rwa [inPhase_of_eq hp]
  · rw [inPhase_of_ne hp]
    exact keepsOutside_refl s

theorem exec_keepsOutside {i : Instr} {s t : State} (h : exec i s = .next t) : KeepsOutside s t := by
  have kept : ∃ u, exec i s = .next u ∧ KeepsOutside s u := by
    cases i with
    | nop => exact ⟨_, rfl, keepsOutside_refl s⟩
    | reset => exact ⟨_, rfl, keepsOutside_applyReset s⟩
    | wrfac idx b => exact ⟨_, rfl, keepsOutside_inPhase (keepsOutside_setImgByte s idx b)⟩
    | wrmag _ | wron _ | wroff _ | wrthr _ | wrmode _ => exact ⟨_, rfl, keepsOutside_inPhase ⟨rfl, rfl⟩⟩
    | start => exact ⟨_, rfl, keepsOutside_inPhase (keepsOutside_commit s)⟩
    | tick => exact ⟨_, rfl, keepsOutside_inPhase (keepsOutside_wakeTick s)⟩
  obtain ⟨u, hu, hkeep⟩ := kept
  obtain rfl := Host.Outcome.next.inj (hu.symm.trans h)
  exact hkeep

/-- Settles O13: a step is one command or a reset, from the begun state, whose host has one action less. -/
theorem stepTakesOneInputAndKeepsParameters : Obligations.StepTakesOneInputAndKeepsParameters := by
  intro s t h
  obtain ⟨i, u, hexec, ht⟩ | ⟨u, hparams, hhost, rfl⟩ := step_cases h
  · rw [ht]
    exact exec_keepsOutside hexec
  · obtain ⟨hhostKept, hparamsKept⟩ := keepsOutside_applyReset u
    exact ⟨hhostKept.trans hhost, hparamsKept.trans hparams⟩

/-! ### Resets (R132, 93_implementation_defined) -/

/-- The actions of the outside world that reset the block: the reset input, power, RESET's word on the command port, and
the reset input during a command. -/
def ResetsBlock (x : HostInput) : Prop :=
  x = .resetInput ∨ x = .powerOn ∨ x = .command 0x10000000#32 ∨ ∃ w n, x = .commandReset w n

/-- A command that the reset input ends leaves only its first `n` events, played before the reset. -/
theorem step_commandReset {s t : State} {w : Word} {n : Nat} {rest : List HostInput}
    (hhost : s.host = .commandReset w n :: rest)
    (hexec : execWord w { s with host := rest, events := [], readData := none } = .next t) :
    step s = .next (applyReset
      ((t.events.take n).foldl playEvent { s with host := rest, events := [], readData := none })) :=
  (step_input hhost).trans (congrArg (mapNext (abortCommand n _)) hexec)

/-- Whatever the source, a step on a reset ends in `applyReset`, with the rest of the host's actions to come. -/
theorem step_of_resetsBlock {s : State} {x : HostInput} {rest : List HostInput} (hhost : s.host = x :: rest)
    (hx : ResetsBlock x) : ∃ u, u.host = rest ∧ step s = .next (applyReset u) := by
  obtain rfl | rfl | rfl | ⟨w, n, rfl⟩ := hx
  · exact ⟨_, rfl, step_input hhost⟩
  · exact ⟨_, rfl, step_input hhost⟩
  · exact ⟨_, rfl, step_command hhost (decode_encode .reset)⟩
  · obtain ⟨t, ht⟩ := execWord_completes w { s with host := rest, events := [], readData := none }
    obtain ⟨-, -, hrest⟩ := foldl_playEvent (t.events.take n) { s with host := rest, events := [], readData := none }
    exact ⟨_, hrest, step_commandReset hhost ht⟩

/-- Settles O19: every source ends in `applyReset`, which leaves nothing of the state before it in a register. -/
theorem everyResetSourceRestoresEveryRegister : Obligations.EveryResetSourceRestoresEveryRegister := by
  refine ⟨registersReset_reset, fun s x rest hhost hx => ?_⟩
  obtain ⟨u, hrest, hstep⟩ := step_of_resetsBlock hhost hx
  obtain ⟨hkept, -⟩ := keepsOutside_applyReset u
  exact ⟨_, hstep, registersReset_applyReset u, hkept.trans hrest⟩

/-- Settles O20: playing the events that stand leaves the outputs at `loadAfter` and `senseEnAfter`, where the reset finds them. -/
theorem abortedCommandLeavesAPrefixOfItsEvents : Obligations.AbortedCommandLeavesAPrefixOfItsEvents := by
  intro s w n rest t hhost hexec
  obtain ⟨hevents, -, -⟩ := foldl_playEvent (t.events.take n) { s with host := rest, events := [], readData := none }
  obtain ⟨hload, hsense⟩ :=
    foldl_playEvent_outputs (t.events.take n) { s with host := rest, events := [], readData := none }
  refine ⟨_, step_commandReset hhost hexec, registersReset_applyReset _, ?_⟩
  rw [applyReset_events, hevents, hload, hsense, List.nil_append]

/-! ### What shows one register (R31, R32, R140) -/

/-- `f` shows one register: it is the same in any two states that agree on that register. -/
def ShowsOneRegister {α : Type} (f : State → α) : Prop := ∃ r, ∀ s t, Keeps s t r → f t = f s

/-- Each bit of `f` shows one register. -/
def BitsShowOneRegister {n : Nat} (f : State → BitVec n) : Prop := ∀ k, ShowsOneRegister fun s => (f s).getLsbD k

theorem ShowsOneRegister.comp {α β : Type} {f : State → α} (h : ShowsOneRegister f) (g : α → β) :
    ShowsOneRegister fun s => g (f s) := by
  obtain ⟨r, hr⟩ := h
  exact ⟨r, fun s t hkeep => congrArg g (hr s t hkeep)⟩

theorem ShowsOneRegister.bits {n : Nat} {f : State → BitVec n} (h : ShowsOneRegister f) : BitsShowOneRegister f :=
  fun k => h.comp fun x => x.getLsbD k

/-- A bit of two fields side by side is a bit of one of them. -/
theorem BitsShowOneRegister.append {m n : Nat} {f : State → BitVec m} {g : State → BitVec n}
    (hf : BitsShowOneRegister f) (hg : BitsShowOneRegister g) : BitsShowOneRegister fun s => f s ++ g s := by
  intro k
  simp only [BitVec.getLsbD_append]
  by_cases hk : k < n
  · simpa only [if_pos hk] using hg k
  · simpa only [if_neg hk] using hf (k - n)

theorem showsOneRegister_duty : ShowsOneRegister State.duty := ⟨.duty, fun _ _ h => h⟩

theorem showsOneRegister_img0 : ShowsOneRegister State.img0 := ⟨.img0, fun _ _ h => h⟩

theorem showsOneRegister_img1 : ShowsOneRegister State.img1 := ⟨.img1, fun _ _ h => h⟩

theorem showsOneRegister_img2 : ShowsOneRegister State.img2 := ⟨.img2, fun _ _ h => h⟩

theorem showsOneRegister_img3 : ShowsOneRegister State.img3 := ⟨.img3, fun _ _ h => h⟩

/-- Every location but STATUS and IMGF shows one register; an unmapped one shows none, so any will do (R31). -/
theorem showsOneRegister_statusData {a : StatusAddr} (hstatus : a ≠ 0x0#4) (himgf : a ≠ 0xA#4) :
    ShowsOneRegister fun s => s.statusData a := by
  obtain hfree | hmapped := le_or_gt 12 a.toNat
  · exact ⟨.phase, fun s t _ => (statusData_of_unmapped t hfree).trans (statusData_of_unmapped s hfree).symm⟩
  · have cover : ∀ a : StatusAddr, a.toNat < 12 → a ≠ 0x0#4 → a ≠ 0xA#4 →
        a = 1#4 ∨ a = 2#4 ∨ a = 3#4 ∨ a = 4#4 ∨ a = 5#4 ∨ a = 6#4 ∨ a = 7#4 ∨ a = 8#4 ∨ a = 9#4 ∨ a = 11#4 := by
      decide
    obtain rfl | rfl | rfl | rfl | rfl | rfl | rfl | rfl | rfl | rfl := cover a hmapped hstatus himgf
    · exact ⟨.dcnt, fun _ _ h => h⟩
    · exact ⟨.vcnt, fun _ _ h => h⟩
    · exact ⟨.onCnt, fun _ _ h => h⟩
    · exact ⟨.offCnt, fun _ _ h => h⟩
    · exact ⟨.thr, fun _ _ h => h⟩
    · exact ⟨.calF, fun _ _ h => h⟩
    · exact ⟨.rawOn, fun _ _ => congrArg zext32⟩
    · exact ⟨.rawOff, fun _ _ => congrArg zext32⟩
    · exact ⟨.rawThr, fun _ _ => congrArg zext32⟩
    · exact ⟨.img4, fun _ _ => congrArg zextByte⟩

/-- STATUS is one-bit registers and DUTY side by side (R32). -/
theorem bitsShowOneRegister_statusWord : BitsShowOneRegister State.statusWord := by
  have zeros : ShowsOneRegister fun _ => 0#24 := ⟨.phase, fun _ _ _ => rfl⟩
  have senseEn : ShowsOneRegister State.senseEn := ⟨.senseEn, fun _ _ h => h⟩
  have calV : ShowsOneRegister State.calV := ⟨.calV, fun _ _ h => h⟩
  have mode : ShowsOneRegister State.mode := ⟨.mode, fun _ _ h => h⟩
  have phase : ShowsOneRegister State.phase := ⟨.phase, fun _ _ h => h⟩
  have latch : ShowsOneRegister State.latch := ⟨.latch, fun _ _ h => h⟩
  have load : ShowsOneRegister State.load := ⟨.load, fun _ _ h => h⟩
  exact ((((((zeros.bits.append (senseEn.comp BitVec.ofBool).bits).append (calV.comp BitVec.ofBool).bits).append
    (mode.comp fun m => BitVec.ofBool m.toBool).bits).append (phase.comp fun p => BitVec.ofBool p.toBool).bits).append
    showsOneRegister_duty.bits).append (latch.comp BitVec.ofBool).bits).append (load.comp BitVec.ofBool).bits

/-- IMGF is the four factor bytes side by side (R31, R43). -/
theorem bitsShowOneRegister_imgFactor : BitsShowOneRegister State.imgFactor :=
  ((showsOneRegister_img0.bits.append showsOneRegister_img1.bits).append showsOneRegister_img2.bits).append
    showsOneRegister_img3.bits

theorem bitsShowOneRegister_statusData (a : StatusAddr) : BitsShowOneRegister fun s => s.statusData a := by
  by_cases hstatus : a = 0x0#4
  · subst hstatus
    exact bitsShowOneRegister_statusWord
  · by_cases himgf : a = 0xA#4
    · subst himgf
      exact bitsShowOneRegister_imgFactor
    · exact (showsOneRegister_statusData hstatus himgf).bits

/-- DUTY is bits 3:2 of STATUS (R32). -/
theorem statusWord_duty (s : State) : s.statusWord.extractLsb' 2 2 = s.duty := by
  have hload := s.load.toNat_le
  have hlatch := s.latch.toNat_le
  have hduty := s.duty.isLt
  rw [← BitVec.toNat_inj, toNat_extractLsb', statusWord_toNat]
  split_ifs <;> omega

/-- The bytes of IMGF, the most significant first (R43). -/
theorem imgFactor_bytes (s : State) :
    s.imgFactor.extractLsb' 24 8 = s.img0 ∧ s.imgFactor.extractLsb' 16 8 = s.img1 ∧
      s.imgFactor.extractLsb' 8 8 = s.img2 ∧ s.imgFactor.extractLsb' 0 8 = s.img3 := by
  have h0 := s.img0.isLt
  have h1 := s.img1.isLt
  have h2 := s.img2.isLt
  have h3 := s.img3.isLt
  simp only [← BitVec.toNat_inj, toNat_extractLsb', imgFactor_toNat]
  omega

/-! ### A status read during a command (R140) -/

/-- A register is seen as after the command where the read's choice names it, and as before it elsewhere. -/
theorem keeps_mixRegisters (seen : List RegName) (old new : State) (r : RegName) :
    Keeps (if r ∈ seen then new else old) (mixRegisters seen old new) r := by
  by_cases hr : r ∈ seen
  · rw [if_pos hr]
    cases r <;> exact if_pos hr
  · rw [if_neg hr]
    cases r <;> exact if_neg hr

/-- What shows one register shows it whole, before or after the command. -/
theorem ShowsOneRegister.old_or_new {α : Type} {f : State → α} (h : ShowsOneRegister f) (seen : List RegName)
    (old new : State) : f (mixRegisters seen old new) = f old ∨ f (mixRegisters seen old new) = f new := by
  obtain ⟨r, hr⟩ := h
  have hmix := hr _ _ (keeps_mixRegisters seen old new r)
  by_cases hseen : r ∈ seen
  · exact .inr (by rwa [if_pos hseen] at hmix)
  · exact .inl (by rwa [if_neg hseen] at hmix)

theorem mixRegisters_nil (old new : State) : mixRegisters [] old new = old := by
  simp [mixRegisters]

theorem step_commandStatusRead {s t : State} {w : Word} {a : StatusAddr} {seen : List RegName} {rest : List HostInput}
    (hhost : s.host = .commandStatusRead w a seen :: rest)
    (hexec : execWord w { s with host := rest, events := [], readData := none } = .next t) :
    step s = .next { t with readData := some ((mixRegisters seen
      { s with host := rest, events := [], readData := none } t).statusData a) } :=
  (step_input hhost).trans (congrArg (mapNext (readStatusDuring a seen _)) hexec)

/-- Settles O16: each bit, each location of one register, DUTY and each byte of the image show one register, and the choice
of the read takes a register whole from one side. -/
theorem statusReadDuringCommandIsOldOrNew : Obligations.StatusReadDuringCommandIsOldOrNew := by
  intro s w a seen rest t hhost hexec
  have choice {α : Type} {f : State → α} (hf : ShowsOneRegister f) :=
    hf.old_or_new seen { s with host := rest, events := [], readData := none } t
  refine ⟨_, step_commandStatusRead hhost hexec, fun k => choice (bitsShowOneRegister_statusData a k),
    fun hstatus himgf => choice (showsOneRegister_statusData hstatus himgf), ?_, ?_, ?_⟩
  · rintro rfl
    exact (choice showsOneRegister_duty).imp (statusWord_duty _).trans (statusWord_duty _).trans
  · rintro rfl
    obtain ⟨hbyte0, hbyte1, hbyte2, hbyte3⟩ :=
      imgFactor_bytes (mixRegisters seen { s with host := rest, events := [], readData := none } t)
    exact ⟨(choice showsOneRegister_img0).imp hbyte0.trans hbyte0.trans,
      (choice showsOneRegister_img1).imp hbyte1.trans hbyte1.trans,
      (choice showsOneRegister_img2).imp hbyte2.trans hbyte2.trans,
      (choice showsOneRegister_img3).imp hbyte3.trans hbyte3.trans⟩
  · rintro rfl
    rw [mixRegisters_nil]
    rfl

end Sys2Proof.Proofs.ResetAndHazards

/-! The proofs of the spec's own inferences about the encoding (R70), the calibrator (R82) and the assembler (R66): each
collects what the lemmas of the decoder, of the calibrator and of the range checks say. -/

namespace Sys2Proof.Proofs.EncodingInferences

open Sys2Proof Sys2Proof.Machine Sys2Proof.Proofs.Scope Sys2Proof.Proofs.Encoding Sys2Proof.Proofs.Calibration
  Sys2Proof.Proofs.Configuration

/-! ### The encoder and the decoder (R70) -/

/-- Settles O1: the table is the encoder's definition; a command's word decodes by the command's own row. -/
theorem encodeTableAndDecodeInvertsEncode : Obligations.EncodeTableAndDecodeInvertsEncode :=
  ⟨rfl, rfl, fun _ _ => rfl, fun _ => rfl, fun _ => rfl, fun _ => rfl, fun _ => rfl, rfl, rfl, rfl, rfl, rfl,
    decode_encode⟩

/-- Settles O2: the word and the encoding are both the row's operation code and the command's operands. -/
theorem decodeAcceptsOnlyEncodedWords : Obligations.DecodeAcceptsOnlyEncodedWords := by
  intro w i h
  apply BitVec.eq_of_toNat_eq
  rw [encode_toNat, toNat_of_matchesWord (matchesWord_of_decode h), build_of_decode h]

/-- Settles O6: each word is its command's encoding. -/
theorem writtenOutWordsDecode : Obligations.WrittenOutWordsDecode :=
  ⟨decode_encode (.wrfac 2#2 0xC2#8), decode_encode (.wrmag 0xA5#8), decode_encode (.wron 7031#16),
    decode_encode (.wroff 3516#16), decode_encode (.wrthr 721#16), decode_encode (.wrmode .fullFeature),
    decode_encode .tick⟩

/-- Settles O58: the range check of one word fails, for BOOT that of its LDCAL. -/
theorem assemblerRejectsValuesBeyondOneWord : Obligations.AssemblerRejectsValuesBeyondOneWord := by
  refine ⟨fun f byte h => ?_, fun w h => assemble_of_illFormed (mt (wordInRange_iff w).mp h.not_gt)⟩
  have hill : ¬ (AsmLine.ldcal f byte).wellFormed = true :=
    fun hwf => h.not_gt ((ldcal_wellFormed_iff f byte).mp hwf).1
  exact ⟨assemble_of_illFormed hill,
    fun on off thr mode => assemble_of_illFormed fun hwf => hill ((bootCal_wellFormed_iff ..).mp hwf).2⟩

/-! ### The laws of the calibrator (R82) -/

section
variable {p : Params} (hp : p.Legal)
include hp

theorem calibrate_mono (v : Bool) (f : Word) {a b : Half} (hab : a.toNat ≤ b.toNat) :
    (calibrate p v f a).toNat ≤ (calibrate p v f b).toNat := by
  rw [calibrate_toNat hp, calibrate_toNat hp]
  split_ifs
  · exact Nat.div_le_div_right (Nat.mul_le_mul_left _ hab)
  · exact hab

/-- A factor at most nominal never raises the value, in band or not. -/
theorem calibrate_le_raw (v : Bool) {f : Word} (raw : Half) (hf : f.toNat ≤ p.nominalHz) :
    (calibrate p v f raw).toNat ≤ raw.toNat := by
  rw [calibrate_toNat hp]
  split_ifs
  · exact Nat.div_le_of_le_mul (Nat.mul_le_mul_right _ hf)
  · exact le_rfl

/-- A factor at least nominal never lowers the value, in band or not. -/
theorem raw_le_calibrate (v : Bool) {f : Word} (raw : Half) (hf : p.nominalHz ≤ f.toNat) :
    raw.toNat ≤ (calibrate p v f raw).toNat := by
  rw [calibrate_toNat hp]
  split_ifs
  · obtain ⟨hpos, -⟩ := hp
    rw [Nat.le_div_iff_mul_le hpos, Nat.mul_comm]
    exact Nat.mul_le_mul_right _ hf
  · exact le_rfl

/-- Without a valid factor the raw value is taken as it is (R73). -/
theorem calibrate_invalid_toNat (f : Word) (raw : Half) : (calibrate p false f raw).toNat = raw.toNat := by
  rw [calibrate_toNat hp, if_neg (by simp)]

end

/-- Settles O29: a nominal factor is both at most and at least nominal, so its law is the third law's two halves. -/
theorem calibratorLaws : Obligations.CalibratorLaws := fun p hp =>
  ⟨calibrate_zero p, fun v f _ _ => calibrate_mono hp v f,
    fun v _ raw _ => ⟨calibrate_le_raw hp v raw, raw_le_calibrate hp v raw⟩,
    fun _ raw hf => (calibrate_le_raw hp true raw hf.le).antisymm (raw_le_calibrate hp true raw hf.ge),
    calibrate_invalid_toNat hp⟩

end Sys2Proof.Proofs.EncodingInferences

/-! The proofs about the machine invariant (R29, R34 to R39, R88, R106) and the states it holds of. In CFG phase the
invariant is what R39 lists; in RUN phase only a TICK does anything, and the monitor and the state machine each keep the
invariant on their own. -/

namespace Sys2Proof.Proofs.Invariant

open Sys2Proof Sys2Proof.Machine Sys2Proof.Safety Sys2Proof.Laws Sys2Proof.Proofs.Scope
  Sys2Proof.Proofs.RegisterState Sys2Proof.Proofs.Memory Sys2Proof.Proofs.Calibration
  Sys2Proof.Proofs.Configuration Sys2Proof.Proofs.Tick Sys2Proof.Proofs.Control
  Sys2Proof.Proofs.ResetAndHazards Sys2Proof.Proofs.EncodingInferences

/-! ### RUN phase: only TICK does anything, and it leaves the configuration alone (R88, R113) -/

/-- In RUN phase a command other than RESET does nothing, or it is TICK. -/
theorem exec_run_cases {i : Instr} {s t : State} (hrun : s.phase = .run) (hi : i ≠ .reset) (h : exec i s = .next t) :
    t = s ∨ i = .tick ∧ t = dutyOutcome (monitorOutcome s) := by
  have ignored (hs : exec i s = .next s) : t = s := Host.Outcome.next.inj (h.symm.trans hs)
  by_cases hwrite : writeTarget i = none
  · obtain rfl | rfl | rfl | rfl := eq_of_writeTarget_eq_none hwrite
    · exact .inl (ignored (exec_nop s))
    · exact absurd rfl hi
    · exact .inl (ignored (exec_start_of_run hrun))
    · exact .inr ⟨rfl, eq_of_exec_tick hrun h⟩
  · obtain ⟨f, hf⟩ := actsIn_cfg_of_writeTarget hwrite
    exact .inl (ignored (hf.exec_of_ne (cfg_ne_of_run hrun)))

theorem keepsOthers_tick (s : State) : KeepsOthers tickRegs s (dutyOutcome (monitorOutcome s)) :=
  wakeTick_eq s ▸ keepsOthers_wakeTick s

theorem keepsOthers_run {i : Instr} {s t : State} (hrun : s.phase = .run) (hi : i ≠ .reset) (h : exec i s = .next t) :
    KeepsOthers tickRegs s t := by
  obtain rfl | ⟨-, rfl⟩ := exec_run_cases hrun hi h
  · exact fun r _ => keeps_refl _ r
  · exact keepsOthers_tick s

/-- The registers TICK writes are outside the configuration. -/
theorem sameConfiguration_of_keepsOthers {s t : State} (h : KeepsOthers tickRegs s t) : SameConfiguration s t :=
  ⟨h .rawOn (by decide), h .rawOff (by decide), h .rawThr (by decide), h .mode (by decide), h .img0 (by decide),
    h .img1 (by decide), h .img2 (by decide), h .img3 (by decide), h .img4 (by decide), h .calF (by decide),
    h .calV (by decide), h .onCnt (by decide), h .offCnt (by decide), h .thr (by decide)⟩

theorem exec_run_sameConfiguration {i : Instr} {s t : State} (hrun : s.phase = .run) (hi : i ≠ .reset)
    (h : exec i s = .next t) : t.phase = .run ∧ SameConfiguration s t :=
  ⟨exec_phase_run h hi hrun, sameConfiguration_of_keepsOthers (keepsOthers_run hrun hi h)⟩

/-- Settles O34: a step is a reset or one command, and the step's outputs are no configuration. -/
theorem runConfigurationIsConstantUntilReset : Obligations.RunConfigurationIsConstantUntilReset := by
  refine ⟨fun i s t hrun hi => exec_run_sameConfiguration hrun hi, fun s t hrun h => ?_⟩
  obtain hreset | ⟨i, u, hi, hexec, ht⟩ := step_resets_or_exec h
  · exact .inr hreset
  · rw [ht]
    have hkept := exec_run_sameConfiguration (s := { s with host := s.host.tail, events := [], readData := none })
      hrun hi hexec
    exact .inl hkept

/-! ### The parts of the invariant -/

/-- In CFG phase the invariant is R39's list, under legal parameters. -/
theorem machineInv_of_cfgQuiet {s : State} (hp : s.params.Legal) (hcfg : s.phase = .cfg) (h : CfgQuiet s) :
    MachineInv s where
  params := hp
  senseOff := h.senseEn
  dutyRecognized := .inl h.duty
  loadMirrors := iff_of_true h.load ⟨h.duty, h.latch⟩
  dcntOn _ := by simp [h.dcnt]
  dcntOff _ := by simp [h.dcnt]
  vcntBelow := by simp [h.vcnt]
  cfgQuiet _ := h
  committed hrun := absurd hcfg (cfg_ne_of_run hrun)
  protectionOnly _ := ⟨h.duty, h.dcnt⟩

/-- The registers whose values in CFG phase R39 lists. -/
def quietRegs : List RegName :=
  [.duty, .load, .latch, .dcnt, .vcnt, .senseEn, .calF, .calV, .onCnt, .offCnt, .thr]

theorem cfgQuiet_of_keeps {s t : State} (h : CfgQuiet s) (hkeep : ∀ r ∈ quietRegs, Keeps s t r) : CfgQuiet t where
  duty := Eq.trans (hkeep .duty (by decide)) h.duty
  load := Eq.trans (hkeep .load (by decide)) h.load
  latch := Eq.trans (hkeep .latch (by decide)) h.latch
  dcnt := Eq.trans (hkeep .dcnt (by decide)) h.dcnt
  vcnt := Eq.trans (hkeep .vcnt (by decide)) h.vcnt
  senseEn := Eq.trans (hkeep .senseEn (by decide)) h.senseEn
  calF := Eq.trans (hkeep .calF (by decide)) h.calF
  calV := Eq.trans (hkeep .calV (by decide)) h.calV
  onCnt := Eq.trans (hkeep .onCnt (by decide)) h.onCnt
  offCnt := Eq.trans (hkeep .offCnt (by decide)) h.offCnt
  thr := Eq.trans (hkeep .thr (by decide)) h.thr

theorem cfgQuiet_of_registersReset {t : State} (h : RegistersReset t) : CfgQuiet t := by
  simp only [RegistersReset] at h
  constructor <;> simp only [h]

theorem machineInv_of_registersReset {t : State} (hp : t.params.Legal) (h : RegistersReset t) : MachineInv t :=
  have ⟨hcfg, _⟩ := h
  machineInv_of_cfgQuiet hp hcfg (cfgQuiet_of_registersReset h)

/-- The committed configuration is a matter of the configuration registers and the parameters. -/
theorem committed_of_sameConfiguration {s t : State} (h : Committed s) (hkeep : SameConfiguration s t)
    (hp : t.openParams = s.openParams) : Committed t := by
  obtain ⟨hon, hoff, hthr, -, h0, h1, h2, h3, h4, hf, hv, hcon, hcoff, hcthr⟩ := hkeep
  have hparams : t.params = s.params := congrArg (·.getD Config.params) hp
  have himg : t.imgFactor = s.imgFactor := by simp only [State.imgFactor, h0, h1, h2, h3]
  have hmagic : magicMatches t = magicMatches s := by simp only [magicMatches, h4, hparams]
  constructor
  · rw [hf, himg, h.calF]
  · rw [hv, hmagic, h.calV]
  · rw [hcon, hparams, hv, hf, hon, h.onCnt]
  · rw [hcoff, hparams, hv, hf, hoff, h.offCnt]
  · rw [hcthr, hparams, hv, hf, hthr, h.thr]

theorem committed_commit (s : State) : Committed (commit s) := by
  rw [commit_eq]
  exact ⟨rfl, rfl, rfl, rfl, rfl⟩

@[simp] theorem monitorOutcome_phase (s : State) : (monitorOutcome s).phase = s.phase := by
  rw [monitorOutcome_writes]

@[simp] theorem dutyOutcome_phase (s : State) : (dutyOutcome s).phase = s.phase := by
  rw [dutyOutcome_writes]

@[simp] theorem dutyOutcome_mode (s : State) : (dutyOutcome s).mode = s.mode := by
  rw [dutyOutcome_writes]

@[simp] theorem dutyOutcome_onCnt (s : State) : (dutyOutcome s).onCnt = s.onCnt := by
  rw [dutyOutcome_writes]

@[simp] theorem dutyOutcome_offCnt (s : State) : (dutyOutcome s).offCnt = s.offCnt := by
  rw [dutyOutcome_writes]

theorem keepsOutside_monitorOutcome (s : State) : KeepsOutside s (monitorOutcome s) := by
  rw [monitorOutcome_writes]
  exact ⟨rfl, rfl⟩

theorem keepsOutside_dutyOutcome (s : State) : KeepsOutside s (dutyOutcome s) := by
  rw [dutyOutcome_writes]
  exact ⟨rfl, rfl⟩

theorem legal_of_openParams {s t : State} (h : t.openParams = s.openParams) (hp : s.params.Legal) :
    t.params.Legal := by
  rwa [State.params, h]

theorem keeps_outputs (s : State) (host : List HostInput) (events : List Event) (data : Option Word) (r : RegName) :
    Keeps s { s with host := host, events := events, readData := data } r := by
  cases r <;> rfl

/-- The invariant does not see the host or the step's outputs. -/
theorem machineInv_outputs {s : State} (h : MachineInv s) (host : List HostInput) (events : List Event)
    (data : Option Word) : MachineInv { s with host := host, events := events, readData := data } where
  params := h.params
  senseOff := h.senseOff
  dutyRecognized := h.dutyRecognized
  loadMirrors := h.loadMirrors
  dcntOn := h.dcntOn
  dcntOff := h.dcntOff
  vcntBelow := h.vcntBelow
  cfgQuiet hcfg := cfgQuiet_of_keeps (h.cfgQuiet hcfg) fun r _ => keeps_outputs s host events data r
  committed hrun := committed_of_sameConfiguration (h.committed hrun)
    (sameConfiguration_of_keepsOthers fun r _ => keeps_outputs s host events data r) rfl
  protectionOnly := h.protectionOnly

/-- START begins the ON state with both accumulators at 0 and the committed configuration (R87). -/
theorem machineInv_commit {s : State} (h : MachineInv s) : MachineInv (commit s) where
  params := legal_of_openParams (keepsOutside_commit s).2 h.params
  senseOff := by rw [commit_eq]; exact h.senseOff
  dutyRecognized := .inl rfl
  loadMirrors := iff_of_true (commit_load s) ⟨rfl, rfl⟩
  dcntOn _ := by simp [commit_eq]
  dcntOff _ := by simp [commit_eq]
  vcntBelow := by simp [commit_eq]
  cfgQuiet hcfg := absurd hcfg (cfg_ne_of_run (commit_phase s))
  committed _ := committed_commit s
  protectionOnly _ := ⟨rfl, rfl⟩

/-- Below its maximum a word counts up by 1. -/
theorem word_succ_toNat {x : Word} (h : x.toNat + 1 < 2 ^ 32) : (x + 1#32).toNat = x.toNat + 1 := by
  rw [BitVec.toNat_add]
  exact Nat.mod_eq_of_lt h

/-- Below the measurement interval VCNT does not wrap, so the boundary is its last place (R37, R94). -/
theorem boundary_iff {s : State} (h : s.vcnt.toNat < Config.uvInterval) :
    Boundary s ↔ s.vcnt.toNat + 1 = Config.uvInterval := by
  simp only [Boundary, Config.uvInterval] at h ⊢
  omega

/-- The count that DCNT runs towards: that of the state DUTY is in, and never 0 (R37, R101, R102). -/
def activeCount (s : State) : Nat := if s.duty = dutyOn then max s.onCnt.toNat 1 else max s.offCnt.toNat 1

theorem activeCount_of_on {s : State} (hon : s.duty = dutyOn) : activeCount s = max s.onCnt.toNat 1 :=
  if_pos hon

theorem activeCount_of_off {s : State} (hoff : s.duty = dutyOff) : activeCount s = max s.offCnt.toNat 1 :=
  if_neg (by rw [hoff]; decide)

theorem activeCount_pos (s : State) : 0 < activeCount s := by
  unfold activeCount
  split_ifs <;> omega

/-! ### The monitor and the state machine keep the invariant -/

section
variable {s : State} (h : MachineInv s)
include h

theorem vcnt_lt_of_inv : s.vcnt.toNat < Config.uvInterval := h.vcntBelow

theorem monitorOutcome_vcnt_lt : (monitorOutcome s).vcnt.toNat < Config.uvInterval := by
  have hbelow := vcnt_lt_of_inv h
  cases hload : s.load with
  | false => rwa [monitorOutcome_of_off hload]
  | true =>
    rw [monitorOutcome_vcnt_of_on hload]
    split_ifs with hb
    · decide
    · rw [boundary_iff hbelow] at hb
      simp only [Config.uvInterval] at hb hbelow ⊢
      rw [word_succ_toNat (by omega)]
      omega

theorem monitorOutcome_senseEn : (monitorOutcome s).senseEn = false := by
  obtain ⟨-, hout⟩ | ⟨-, -, hout⟩ | ⟨-, -, -, hout⟩ | ⟨-, -, -, hout⟩ := monitorOutcome_cases s
  all_goals rw [hout]
  · exact h.senseOff
  · exact h.senseOff
  · rfl
  · rfl

theorem monitorOutcome_loadMirrors :
    (monitorOutcome s).load = true ↔ (monitorOutcome s).duty = dutyOn ∧ (monitorOutcome s).latch = false := by
  obtain ⟨-, hout⟩ | ⟨-, -, hout⟩ | ⟨-, -, -, hout⟩ | ⟨-, -, -, hout⟩ := monitorOutcome_cases s
  all_goals rw [hout]
  · exact h.loadMirrors
  · exact h.loadMirrors
  · simp
  · exact h.loadMirrors

theorem dutyOutcome_loadMirrors :
    (dutyOutcome s).load = true ↔ (dutyOutcome s).duty = dutyOn ∧ (dutyOutcome s).latch = false := by
  have hne : dutyOff ≠ dutyOn := by decide
  obtain ⟨-, hout⟩ | ⟨-, hfree, ⟨-, -, hout⟩ | ⟨-, -, hout⟩ | ⟨-, -, hout⟩ | ⟨-, -, hout⟩ | ⟨-, -, hout⟩⟩ :=
    dutyOutcome_cases s
  all_goals rw [hout]
  · exact h.loadMirrors
  · exact iff_of_false Bool.false_ne_true fun hmirror => hne hmirror.1
  · exact h.loadMirrors
  · exact iff_of_true rfl ⟨rfl, hfree⟩
  · exact h.loadMirrors
  · exact iff_of_false Bool.false_ne_true fun hmirror => hne hmirror.1

theorem dutyOutcome_dutyRecognized : (dutyOutcome s).duty = dutyOn ∨ (dutyOutcome s).duty = dutyOff := by
  obtain ⟨-, hout⟩ | ⟨-, -, ⟨-, -, hout⟩ | ⟨-, -, hout⟩ | ⟨-, -, hout⟩ | ⟨-, -, hout⟩ | ⟨-, -, hout⟩⟩ :=
    dutyOutcome_cases s
  all_goals rw [hout]
  · exact h.dutyRecognized
  · exact .inr rfl
  · exact h.dutyRecognized
  · exact .inl rfl
  · exact h.dutyRecognized
  · exact .inr rfl

theorem dcnt_lt_activeCount : s.dcnt.toNat < activeCount s := by
  unfold activeCount
  split_ifs with hon
  · exact h.dcntOn hon
  · exact h.dcntOff (h.dutyRecognized.resolve_left hon)

theorem dcnt_succ_lt : s.dcnt.toNat + 1 < 2 ^ 32 := by
  have hbelow := dcnt_lt_activeCount h
  unfold activeCount at hbelow
  split_ifs at hbelow <;> omega

/-- The state machine counts while the next count is below the active one, and restarts DCNT at a transition. -/
theorem dutyOutcome_dcnt_lt : (dutyOutcome s).dcnt.toNat < activeCount (dutyOutcome s) := by
  have hcount := word_succ_toNat (dcnt_succ_lt h)
  have hmod := Nat.mod_eq_of_lt (dcnt_succ_lt h)
  obtain ⟨-, hout⟩ | ⟨-, -, ⟨-, -, hout⟩ | ⟨hon, hbelow, hout⟩ | ⟨-, -, hout⟩ | ⟨hoff, hbelow, hout⟩ | ⟨-, -, hout⟩⟩ :=
    dutyOutcome_cases s
  all_goals rw [hout]
  · exact dcnt_lt_activeCount h
  · exact activeCount_pos _
  · change (s.dcnt + 1#32).toNat < activeCount s
    rw [activeCount_of_on hon, hcount]
    omega
  · exact activeCount_pos _
  · change (s.dcnt + 1#32).toNat < activeCount s
    rw [activeCount_of_off hoff, hcount]
    omega
  · exact activeCount_pos _

end

section
variable {s : State} (h : MachineInv s) (hrun : s.phase = .run)
include h hrun

theorem machineInv_monitorOutcome : MachineInv (monitorOutcome s) where
  params := legal_of_openParams (keepsOutside_monitorOutcome s).2 h.params
  senseOff := monitorOutcome_senseEn h
  dutyRecognized := by simpa using h.dutyRecognized
  loadMirrors := monitorOutcome_loadMirrors h
  dcntOn := by simpa using h.dcntOn
  dcntOff := by simpa using h.dcntOff
  vcntBelow := monitorOutcome_vcnt_lt h
  cfgQuiet hcfg := absurd hcfg (cfg_ne_of_run ((monitorOutcome_phase s).trans hrun))
  committed _ := committed_of_sameConfiguration (h.committed hrun)
    (sameConfiguration_of_keepsOthers (keepsOthers_monitorOutcome s)) (keepsOutside_monitorOutcome s).2
  protectionOnly := by simpa using h.protectionOnly

theorem machineInv_dutyOutcome : MachineInv (dutyOutcome s) where
  params := legal_of_openParams (keepsOutside_dutyOutcome s).2 h.params
  senseOff := (dutyOutcome_senseEn s).trans h.senseOff
  dutyRecognized := dutyOutcome_dutyRecognized h
  loadMirrors := dutyOutcome_loadMirrors h
  dcntOn hon := activeCount_of_on hon ▸ dutyOutcome_dcnt_lt h
  dcntOff hoff := activeCount_of_off hoff ▸ dutyOutcome_dcnt_lt h
  vcntBelow := by simpa using h.vcntBelow
  cfgQuiet hcfg := absurd hcfg (cfg_ne_of_run ((dutyOutcome_phase s).trans hrun))
  committed _ := committed_of_sameConfiguration (h.committed hrun)
    (sameConfiguration_of_keepsOthers (keepsOthers_dutyOutcome s)) (keepsOutside_dutyOutcome s).2
  protectionOnly hmode := by
    have hprot : s.mode = .protectionOnly := (dutyOutcome_mode s).symm.trans hmode
    rw [dutyOutcome_of_gated (.inl hprot)]
    exact h.protectionOnly hprot

end

/-! ### Every step keeps the invariant -/

theorem writeTarget_not_quiet {i : Instr} {q : RegName} (hq : writeTarget i = some q) : q ∉ .phase :: quietRegs := by
  cases i with
  | nop | reset | start | tick => cases hq
  | wrfac idx b =>
    obtain rfl | rfl | rfl | rfl := index_cases idx
    all_goals
      obtain rfl := Option.some.inj hq
      decide
  | wrmag _ | wron _ | wroff _ | wrthr _ | wrmode _ =>
    obtain rfl := Option.some.inj hq
    decide

/-- A write in CFG phase leaves R39's registers alone. -/
theorem machineInv_write {i : Instr} {q : RegName} {s t : State} (h : MachineInv s) (hcfg : s.phase = .cfg)
    (hq : writeTarget i = some q) (hexec : exec i s = .next t) : MachineInv t := by
  have kept : ∀ r ∈ RegName.phase :: quietRegs, Keeps s t r := fun r hr =>
    keepsOthers_write hq hexec r fun hmem => writeTarget_not_quiet hq (List.mem_singleton.mp hmem ▸ hr)
  exact machineInv_of_cfgQuiet (legal_of_openParams (exec_keepsOutside hexec).2 h.params)
    (Eq.trans (kept .phase (by decide)) hcfg) (cfgQuiet_of_keeps (h.cfgQuiet hcfg) fun r hr => kept r (.tail _ hr))

theorem exec_keeps_machineInv {i : Instr} {s t : State} (h : MachineInv s) (hexec : exec i s = .next t) :
    MachineInv t := by
  by_cases hi : i = .reset
  · subst hi
    have hp := legal_of_openParams (exec_keepsOutside hexec).2 h.params
    obtain rfl := Host.Outcome.next.inj ((exec_reset s).symm.trans hexec)
    exact machineInv_of_registersReset hp (registersReset_applyReset s)
  · cases hphase : s.phase with
    | run =>
      obtain rfl | ⟨-, rfl⟩ := exec_run_cases hphase hi hexec
      · exact h
      · exact machineInv_dutyOutcome (machineInv_monitorOutcome h hphase)
          ((monitorOutcome_phase s).trans hphase)
    | cfg =>
      cases hq : writeTarget i with
      | some q => exact machineInv_write h hphase hq hexec
      | none =>
        obtain rfl | rfl | rfl | rfl := eq_of_writeTarget_eq_none hq
        · obtain rfl := Host.Outcome.next.inj ((exec_nop s).symm.trans hexec)
          exact h
        · exact absurd rfl hi
        · obtain rfl := Host.Outcome.next.inj ((exec_start_of_cfg hphase).symm.trans hexec)
          exact machineInv_commit h
        · obtain rfl := Host.Outcome.next.inj ((actsIn_tick.exec_of_ne (run_ne_of_cfg hphase)).symm.trans hexec)
          exact h

/-- Settles O50: a step is a reset, under parameters it does not write, or one command, and its outputs are not seen. -/
theorem everyStepKeepsTheInvariant : Obligations.EveryStepKeepsTheInvariant := by
  intro s t h hstep
  have hp : t.params.Legal := legal_of_openParams (stepTakesOneInputAndKeepsParameters s t hstep).2 h.params
  obtain hreset | ⟨i, u, -, hexec, ht⟩ := step_resets_or_exec hstep
  · exact machineInv_of_registersReset hp hreset
  · rw [ht]
    exact machineInv_outputs (exec_keeps_machineInv (machineInv_outputs h _ _ _) hexec) _ _ _

theorem configParams_legal : Config.params.Legal :=
  ⟨Nat.succ_pos _, Nat.mod_lt _ (Nat.succ_pos _)⟩

/-- Settles O51: the reset state has every register reset, and the hardware's own parameters are legal. -/
theorem theInvariantHoldsAfterReset : Obligations.TheInvariantHoldsAfterReset :=
  ⟨machineInv_of_registersReset configParams_legal registersReset_reset,
    fun _ _ _ _ hp => machineInv_of_registersReset hp registersReset_reset⟩

/-! ### Reachable states (R34 to R39) -/

theorem machineInv_of_reachable {s : State} (h : Reachable s) : MachineInv s := by
  induction h with
  | reset p legal host sense draws => exact theInvariantHoldsAfterReset.2 p host sense draws legal
  | step s t _ hstep ih => exact everyStepKeepsTheInvariant s t ih hstep

/-- Settles O52: LOAD's line of the invariant. -/
theorem reachableLoadMirrorsDutyAndLatch : Obligations.ReachableLoadMirrorsDutyAndLatch :=
  fun _ h => (machineInv_of_reachable h).loadMirrors

/-- A latched block has the load off and the state machine gated off, so a TICK finds nothing to do (R36). -/
theorem exec_tick_of_latched {s : State} (h : MachineInv s) (hlatch : s.latch = true) : exec .tick s = .next s := by
  cases hphase : s.phase with
  | cfg => exact actsIn_tick.exec_of_ne (run_ne_of_cfg hphase)
  | run =>
    have hoff : s.load = false := by
      rw [Bool.eq_false_iff]
      intro hon
      obtain ⟨-, hfree⟩ := h.loadMirrors.mp hon
      exact Bool.false_ne_true (hfree.symm.trans hlatch)
    rw [exec_tick_of_run hphase, monitorOutcome_of_off hoff, dutyOutcome_of_gated (.inr hlatch)]

/-- Settles O53, by induction on the number of TICKs. -/
theorem latchedTicksChangeNothing : Obligations.LatchedTicksChangeNothing := by
  intro s n hreach hlatch
  have hfix := exec_tick_of_latched (machineInv_of_reachable hreach) hlatch
  induction n with
  | zero => rfl
  | succ n ih => exact (runCommands_cons_of_next hfix (ticks n)).trans ih

/-- Settles O54: a count below another word, or below 1, is no word's maximum. -/
theorem reachableAccumulatorsStayBelowTheirCounts : Obligations.ReachableAccumulatorsStayBelowTheirCounts := by
  intro s hreach
  have h := machineInv_of_reachable hreach
  have hvcnt : s.vcnt.toNat < 110 := vcnt_lt_of_inv h
  exact ⟨h.dcntOn, h.dcntOff, h.vcntBelow, word_succ_toNat (dcnt_succ_lt h), word_succ_toNat (by omega)⟩

/-- Settles O55: the invariant's line for CFG phase. -/
theorem reachableCfgPhaseHoldsItsValues : Obligations.ReachableCfgPhaseHoldsItsValues := by
  intro s hreach hcfg
  have h := (machineInv_of_reachable hreach).cfgQuiet hcfg
  exact ⟨h.duty, h.load, h.latch, h.dcnt, h.vcnt, h.senseEn, h.calF, h.calV, h.onCnt, h.offCnt, h.thr⟩

theorem calibrate_lt {p : Params} (hp : p.Legal) (v : Bool) (f : Word) (raw : Half) :
    (calibrate p v f raw).toNat < 2 ^ 17 :=
  (calibrate_le_bound hp v f raw).trans_lt (bound_lt hp raw)

/-- Settles O56: the active registers are 0 in CFG phase and calibrated values in RUN phase. -/
theorem reachableActiveRegistersAreBounded : Obligations.ReachableActiveRegistersAreBounded := by
  intro s hreach
  have h := machineInv_of_reachable hreach
  cases hphase : s.phase with
  | cfg =>
    have hquiet := h.cfgQuiet hphase
    simp [hquiet.onCnt, hquiet.offCnt, hquiet.thr]
  | run =>
    have hcommitted := h.committed hphase
    rw [hcommitted.onCnt, hcommitted.offCnt, hcommitted.thr]
    refine ⟨calibrate_lt h.params .., calibrate_lt h.params .., calibrate_lt h.params .., fun _ hinvalid => ?_⟩
    rw [hinvalid]
    exact ⟨calibrate_invalid_toNat h.params .., calibrate_invalid_toNat h.params ..,
      calibrate_invalid_toNat h.params ..⟩

end Sys2Proof.Proofs.Invariant

/-! The proofs about repeated and exchanged commands (R49, R90). A run of write commands leaves in each register what
the last write of that register writes, so two runs with the same last writes leave one state; every clause about writes
is a case of this. -/

namespace Sys2Proof.Proofs.Writes

open Sys2Proof Sys2Proof.Machine Sys2Proof.Safety Sys2Proof.Laws Sys2Proof.Proofs.Scope
  Sys2Proof.Proofs.RegisterState Sys2Proof.Proofs.Calibration Sys2Proof.Proofs.Configuration
  Sys2Proof.Proofs.Tick Sys2Proof.Proofs.Control

/-! ### A state is its registers and its surroundings -/

theorem keeps_symm {s t : State} {r : RegName} (h : Keeps s t r) : Keeps t s r := by
  cases r <;> exact Eq.symm h

/-- The fields of the state that are no register hold the same values. -/
def SameSurroundings (s t : State) : Prop :=
  t.openParams = s.openParams ∧ t.host = s.host ∧ t.sense = s.sense ∧ t.senseDraws = s.senseDraws ∧
  t.events = s.events ∧ t.readData = s.readData

theorem sameSurroundings_refl (s : State) : SameSurroundings s s := ⟨rfl, rfl, rfl, rfl, rfl, rfl⟩

theorem SameSurroundings.symm {s t : State} (h : SameSurroundings s t) : SameSurroundings t s := by
  obtain ⟨hparams, hhost, hsense, hdraws, hevents, hdata⟩ := h
  exact ⟨hparams.symm, hhost.symm, hsense.symm, hdraws.symm, hevents.symm, hdata.symm⟩

theorem SameSurroundings.trans {s t u : State} (hst : SameSurroundings s t) (htu : SameSurroundings t u) :
    SameSurroundings s u := by
  obtain ⟨hparams, hhost, hsense, hdraws, hevents, hdata⟩ := hst
  obtain ⟨hparams', hhost', hsense', hdraws', hevents', hdata'⟩ := htu
  exact ⟨hparams'.trans hparams, hhost'.trans hhost, hsense'.trans hsense, hdraws'.trans hdraws,
    hevents'.trans hevents, hdata'.trans hdata⟩

theorem eq_of_keeps {s t : State} (hkeep : ∀ r, Keeps s t r) (hrest : SameSurroundings s t) : t = s := by
  cases s
  cases t
  simp only [State.mk.injEq]
  exact ⟨hkeep .phase, hkeep .img0, hkeep .img1, hkeep .img2, hkeep .img3, hkeep .img4, hkeep .rawOn, hkeep .rawOff,
    hkeep .rawThr, hkeep .mode, hkeep .calF, hkeep .calV, hkeep .onCnt, hkeep .offCnt, hkeep .thr, hkeep .duty,
    hkeep .dcnt, hkeep .vcnt, hkeep .latch, hkeep .load, hkeep .senseEn, hrest⟩

/-! ### One write command (R79, R80, R83 to R86) -/

/-- What a write command does in CFG phase; the other commands write nothing here. -/
def writeEffect : Instr → State → State
  | .wrfac idx b, s => s.setImgByte idx b
  | .wrmag b, s => { s with img4 := b }
  | .wron n, s => { s with rawOn := n }
  | .wroff n, s => { s with rawOff := n }
  | .wrthr n, s => { s with rawThr := n }
  | .wrmode m, s => { s with mode := m }
  | .nop, s | .reset, s | .start, s | .tick, s => s

theorem actsIn_writeEffect {i : Instr} (h : writeTarget i ≠ none) : ActsIn .cfg (writeEffect i) i := by
  cases i with
  | nop | reset | start | tick => exact absurd rfl h
  | wrfac | wrmag | wron | wroff | wrthr | wrmode => exact fun _ => rfl

theorem writeEffect_surroundings (i : Instr) (s : State) :
    (writeEffect i s).phase = s.phase ∧ SameSurroundings s (writeEffect i s) := by
  cases i with
  | wrfac idx b =>
    obtain rfl | rfl | rfl | rfl := index_cases idx <;> exact ⟨rfl, sameSurroundings_refl s⟩
  | nop | reset | wrmag | wron | wroff | wrthr | wrmode | start | tick => exact ⟨rfl, sameSurroundings_refl s⟩

/-- What a write leaves in its target does not depend on the state it finds. -/
theorem keeps_writeEffect_target {i : Instr} {r : RegName} (h : writeTarget i = some r) (s u : State) :
    Keeps (writeEffect i s) (writeEffect i u) r := by
  cases i with
  | nop | reset | start | tick => cases h
  | wrfac idx b =>
    obtain rfl | rfl | rfl | rfl := index_cases idx
    all_goals
      obtain rfl := Option.some.inj h
      rfl
  | wrmag | wron | wroff | wrthr | wrmode =>
    obtain rfl := Option.some.inj h
    rfl

theorem keeps_writeEffect_other {i : Instr} {r : RegName} (h : writeTarget i ≠ none) (hr : writeTarget i ≠ some r)
    {s : State} (hcfg : s.phase = .cfg) : Keeps s (writeEffect i s) r := by
  obtain ⟨q, hq⟩ := Option.ne_none_iff_exists'.mp h
  refine keepsOthers_write hq ((actsIn_writeEffect h).exec_of_eq hcfg) r fun hmem => hr ?_
  rw [hq, List.mem_singleton.mp hmem]

/-! ### Runs of write commands (R90) -/

/-- What a run of write commands does in CFG phase. -/
def writesEffect (is : List Instr) (s : State) : State := is.foldl (fun u i => writeEffect i u) s

theorem writesEffect_concat (is : List Instr) (i : Instr) (s : State) :
    writesEffect (is ++ [i]) s = writeEffect i (writesEffect is s) := by
  simp [writesEffect]

theorem writesEffect_surroundings (is : List Instr) (s : State) :
    (writesEffect is s).phase = s.phase ∧ SameSurroundings s (writesEffect is s) := by
  induction is using List.reverseRecOn with
  | nil => exact ⟨rfl, sameSurroundings_refl s⟩
  | append_singleton is i ih =>
    obtain ⟨hphase, hrest⟩ := ih
    obtain ⟨iphase, irest⟩ := writeEffect_surroundings i (writesEffect is s)
    rw [writesEffect_concat]
    exact ⟨iphase.trans hphase, hrest.trans irest⟩

theorem runCommands_writes {is : List Instr} (hw : ∀ i ∈ is, writeTarget i ≠ none) (s : State) :
    runCommands is s = .next (inPhase .cfg (writesEffect is) s) := by
  induction is generalizing s with
  | nil => by_cases hcfg : s.phase = .cfg <;> simp [runCommands, writesEffect, hcfg]
  | cons i is ih =>
    have hi := actsIn_writeEffect (hw i (.head is))
    have hrest := ih fun j hj => hw j (.tail i hj)
    by_cases hcfg : s.phase = .cfg
    · obtain ⟨hphase, -⟩ := writeEffect_surroundings i s
      rw [runCommands_cons_of_next (hi.exec_of_eq hcfg), hrest, inPhase_of_eq (hphase.trans hcfg), inPhase_of_eq hcfg]
      rfl
    · rw [runCommands_cons_of_next (hi.exec_of_ne hcfg), hrest, inPhase_of_ne hcfg, inPhase_of_ne hcfg]

/-- The state that register `r` alone sees after the run: that of the last write of `r`, from the run's start. -/
def lastWrite (r : RegName) (is : List Instr) (s : State) : State :=
  (writesOf r is).getLast?.elim s fun i => writeEffect i s

/-- Each register holds after the run what its last write wrote. -/
theorem keeps_writesEffect {is : List Instr} (hw : ∀ i ∈ is, writeTarget i ≠ none) {s : State} (hcfg : s.phase = .cfg)
    (r : RegName) : Keeps (lastWrite r is s) (writesEffect is s) r := by
  induction is using List.reverseRecOn with
  | nil => exact keeps_refl s r
  | append_singleton is i ih =>
    have hi : writeTarget i ≠ none := hw i (by simp)
    rw [writesEffect_concat]
    by_cases hr : writeTarget i = some r
    · have hlast : lastWrite r (is ++ [i]) s = writeEffect i s := by simp [lastWrite, writesOf, hr]
      rw [hlast]
      exact keeps_writeEffect_target hr s _
    · have hlast : lastWrite r (is ++ [i]) s = lastWrite r is s := by simp [lastWrite, writesOf, hr]
      obtain ⟨hphase, -⟩ := writesEffect_surroundings is s
      rw [hlast]
      exact (ih fun j hj => hw j (by simp [hj])).trans (keeps_writeEffect_other hi hr (hphase.trans hcfg))

/-- Runs of writes with the same last write of each register do the same. -/
theorem runCommands_eq_of_last_writes {is js : List Instr} (his : ∀ i ∈ is, writeTarget i ≠ none)
    (hjs : ∀ j ∈ js, writeTarget j ≠ none) (hlast : ∀ r, (writesOf r is).getLast? = (writesOf r js).getLast?)
    (s : State) : runCommands is s = runCommands js s := by
  rw [runCommands_writes his, runCommands_writes hjs]
  by_cases hcfg : s.phase = .cfg
  · obtain ⟨-, irest⟩ := writesEffect_surroundings is s
    obtain ⟨-, jrest⟩ := writesEffect_surroundings js s
    have hkeep : ∀ r, Keeps (writesEffect js s) (writesEffect is s) r := fun r => by
      have hi := keeps_writesEffect his hcfg r
      rw [lastWrite, hlast r] at hi
      exact (keeps_symm (keeps_writesEffect hjs hcfg r)).trans hi
    rw [inPhase_of_eq hcfg, inPhase_of_eq hcfg, eq_of_keeps hkeep (jrest.symm.trans irest)]
  · rw [inPhase_of_ne hcfg, inPhase_of_ne hcfg]

theorem runCommands_append_of_next {is : List Instr} {s t : State} (h : runCommands is s = .next t) (js : List Instr) :
    runCommands (is ++ js) s = runCommands js t := by
  induction is generalizing s with
  | nil =>
    obtain rfl := Host.Outcome.next.inj h
    rfl
  | cons i is ih =>
    obtain ⟨u, hfirst, hrest⟩ := runCommands_cons_eq_next_iff.mp h
    rw [List.cons_append, runCommands_cons_of_next hfirst, ih hrest]

/-- Settles O31: neither the order of two registers' writes nor an overwritten one shows in the last writes. -/
theorem configurationWritesCommute : Obligations.ConfigurationWritesCommute := by
  refine ⟨fun s i j hi hj hne => ?_, fun s is js his hjs hlast => ?_⟩
  · refine runCommands_eq_of_last_writes (by simp [hi, hj]) (by simp [hi, hj]) (fun r => ?_) s
    by_cases hir : writeTarget i = some r
    · have hjr : writeTarget j ≠ some r := fun h => hne (hir.trans h.symm)
      simp [writesOf, hir, hjr]
    · simp [writesOf, hir]
  · have heq := runCommands_eq_of_last_writes his hjs hlast s
    have hrun := runCommands_writes hjs s
    rw [runCommands_append_of_next (heq.trans hrun), runCommands_append_of_next hrun]

/-! ### Repeated commands (R49) -/

/-- Of two writes of one register the second alone counts. -/
theorem runCommands_same_target {i j : Instr} (hi : writeTarget i ≠ none) (hij : writeTarget i = writeTarget j)
    (s : State) : runCommands [i, j] s = runCommands [j] s := by
  have hj : writeTarget j ≠ none := hij ▸ hi
  refine runCommands_eq_of_last_writes (by simp [hi, hj]) (by simp [hj]) (fun r => ?_) s
  by_cases hr : writeTarget j = some r <;> simp [writesOf, hij, hr]

/-- A command that its own effect does not move again is idempotent. -/
theorem runCommands_twice {i : Instr} {s t : State} (hfirst : exec i s = .next t) (hagain : exec i t = .next t) :
    runCommands [i, i] s = runCommands [i] s := by
  rw [runCommands_cons_of_next hfirst, runCommands_singleton, runCommands_singleton, hagain, hfirst]

/-- After a reset both outputs are at their reset values, so a second one emits nothing. -/
theorem applyReset_applyReset (s : State) : applyReset (applyReset s) = applyReset s := by
  rw [applyReset_eq s, applyReset_eq]
  simp [State.reset]

theorem runCommands_start_twice (s : State) : runCommands [.start, .start] s = runCommands [.start] s := by
  cases hphase : s.phase with
  | cfg => exact runCommands_twice (exec_start_of_cfg hphase) (exec_start_of_run (commit_phase s))
  | run => exact runCommands_twice (exec_start_of_run hphase) (exec_start_of_run hphase)

/-- A second TICK counts VCNT on. -/
theorem runCommands_tick_twice_ne :
    runCommands [.tick, .tick] { State.reset with phase := .run } ≠
      runCommands [.tick] { State.reset with phase := .run } := by
  intro heq
  have hfirst := exec_tick_of_run (s := { State.reset with phase := .run }) rfl
  rw [runCommands_cons_of_next hfirst, runCommands_singleton, runCommands_singleton, hfirst] at heq
  exact exec_tick_vcnt_ne (by decide) (by decide) heq rfl

/-- Settles O32: writes by their last write, the others each by its own effect; TICK from the start of RUN phase. -/
theorem repeatedCommandsAreIdempotentButTick : Obligations.RepeatedCommandsAreIdempotentButTick := by
  refine ⟨fun s i hi => ?_, fun s i j hi hij => runCommands_same_target hi hij s, fun _ _ => rfl,
    ⟨_, runCommands_tick_twice_ne⟩⟩
  obtain hwrite | rfl | rfl | rfl := hi
  · exact runCommands_same_target hwrite rfl s
  · exact runCommands_twice (exec_nop s) (exec_nop s)
  · exact runCommands_twice (exec_reset s) (congrArg Host.Outcome.next (applyReset_applyReset s))
  · exact runCommands_start_twice s

end Sys2Proof.Proofs.Writes

/-! The proofs of the spec's own inferences about TICK (R104 to R109): one tick in closed form, then runs of ticks. In
FullFeature mode a run goes round a cycle of `a + b` places, one place a tick; with the load off the monitor's count is
held; in ProtectionOnly mode the events of LOAD add up to the change of LATCH. -/

namespace Sys2Proof.Proofs.TickInferences

open Sys2Proof Sys2Proof.Machine Sys2Proof.Safety Sys2Proof.Laws Sys2Proof.Proofs.Scope
  Sys2Proof.Proofs.RegisterState Sys2Proof.Proofs.Calibration Sys2Proof.Proofs.Configuration
  Sys2Proof.Proofs.Tick Sys2Proof.Proofs.Control Sys2Proof.Proofs.Invariant Sys2Proof.Proofs.Writes

/-! ### One tick (R105, R108, R109) -/

/-- Settles O36: both closed forms are proved of the pseudocode. -/
theorem tickIsMonitorThenStateMachine : Obligations.TickIsMonitorThenStateMachine :=
  ⟨fun _ => exec_tick_of_run, fun _ hcfg => actsIn_tick.exec_of_ne (run_ne_of_cfg hcfg)⟩

/-- What the monitor leaves at a boundary with the load on whose sample trips (R97, R98). -/
theorem monitorOutcome_of_trip {s : State} (h : ComparatorTrips s) :
    monitorOutcome s =
      { afterWindow s with load := false, latch := true, events := s.events ++ windowEvents s ++ [.loadOff] } := by
  obtain ⟨hon, hb, htrip⟩ := h
  rw [monitorOutcome_of_on hon, if_neg (not_not.2 hb), if_pos htrip]

/-- A trip gates the state machine off on its own tick (R99, R105). -/
theorem tick_of_trip {s : State} (h : ComparatorTrips s) : dutyOutcome (monitorOutcome s) = monitorOutcome s :=
  dutyOutcome_of_gated (.inr ((monitorOutcome_latch s).2 (.inr h)))

/-- Settles O40: the trip is the monitor's, and the load is on in the ON state only. -/
theorem tripCutsLoadAndSuppressesStateMachine : Obligations.TripCutsLoadAndSuppressesStateMachine := by
  intro s hrun hon hb htrip
  have htrips : ComparatorTrips s := ⟨hon, hb, htrip⟩
  refine ⟨?_, fun h => (h.loadMirrors.mp hon).1⟩
  rw [exec_tick_of_run hrun, tick_of_trip htrips, monitorOutcome_of_trip htrips]
  rfl

/-- Away from a boundary, and with the load off, the monitor emits nothing (R93, R94). -/
theorem monitorOutcome_events_of_no_window {s : State} (h : ¬ (s.load = true ∧ Boundary s)) :
    (monitorOutcome s).events = s.events := by
  obtain ⟨-, hout⟩ | ⟨-, -, hout⟩ | ⟨hon, hb, -⟩ | ⟨hon, hb, -⟩ := monitorOutcome_cases s
  · rw [hout]
  · rw [hout]
  · exact absurd ⟨hon, hb⟩ h
  · exact absurd ⟨hon, hb⟩ h

/-- Settles O45: at a boundary the window comes first; a tick that sets LATCH trips. -/
theorem tickEventsAreOneWindowThenOneLoadEvent : Obligations.TickEventsAreOneWindowThenOneLoadEvent := by
  intro s t hrun h
  obtain rfl := eq_of_exec_tick hrun h
  have trips (hfree : s.latch = false) (hset : (monitorOutcome s).latch = true) : ComparatorTrips s :=
    ((monitorOutcome_latch s).1 hset).resolve_left (Bool.eq_false_iff.1 hfree)
  rw [dutyOutcome_latch]
  by_cases hwindow : s.load = true ∧ Boundary s
  · obtain ⟨hon, hb⟩ := hwindow
    refine ⟨_, _, tick_events_of_boundary hon hb, .inr ⟨hon, hb, rfl⟩, loadChange_cases .., fun hfree hset => ?_⟩
    have htrips := trips hfree hset
    rw [tick_of_trip htrips, monitorOutcome_of_trip htrips]
    exact ⟨rfl, rfl, rfl⟩
  · have hevents := dutyOutcome_events (monitorOutcome s)
    rw [monitorOutcome_events_of_no_window hwindow, ← List.append_nil s.events] at hevents
    refine ⟨[], _, hevents, .inl rfl, loadChange_cases .., fun hfree hset => ?_⟩
    obtain ⟨hon, hb, -⟩ := trips hfree hset
    exact absurd ⟨hon, hb⟩ hwindow

/-- Settles O46: without a trip the state machine finds the window done; with one it is gated off. -/
theorem boundaryAndTransitionOnOneTick : Obligations.BoundaryAndTransitionOnOneTick := by
  intro s hrun hfull hfree hon hduty hb hreach
  rw [exec_tick_of_run hrun]
  refine ⟨fun hquiet => ?_, fun htrip => ?_⟩
  · have hwindow : monitorOutcome s = afterWindow s := by
      rw [monitorOutcome_of_on hon, if_neg (not_not.2 hb), if_neg hquiet.not_gt]
    have hload : (afterWindow s).load = true := hon
    have hreached : (afterWindow s).onCnt.toNat ≤ ((afterWindow s).dcnt.toNat + 1) % 2 ^ 32 := hreach
    rw [hwindow, dutyOutcome_of_on (s := afterWindow s) hfull hfree hduty, if_pos hreached, if_pos hload]
    rfl
  · rw [tick_of_trip ⟨hon, hb, htrip⟩, monitorOutcome_of_trip ⟨hon, hb, htrip⟩]

/-! ### The interval while the load is off, and after it (R107) -/

/-- With the load on and no boundary the monitor counts one tick and reads nothing. -/
theorem monitorOutcome_of_counting {s : State} (hon : s.load = true) (hin : ¬ Boundary s) :
    monitorOutcome s = { s with vcnt := s.vcnt + 1#32 } := by
  rw [monitorOutcome_of_on hon, if_pos hin]

/-- While the load stays on, `k` ticks short of the boundary count `k`, and the environment is not read. -/
theorem ticks_count_interval {k : Nat} {s t : State} (hrun : s.phase = .run) (hk : s.vcnt.toNat + k < Config.uvInterval)
    (hon : ∀ j u, j ≤ k → runCommands (ticks j) s = .next u → u.load = true) (h : runCommands (ticks k) s = .next t) :
    t.vcnt.toNat = s.vcnt.toNat + k ∧ t.sense = s.sense ∧ t.senseDraws = s.senseDraws := by
  induction k generalizing s with
  | zero =>
    obtain rfl := Host.Outcome.next.inj h
    exact ⟨rfl, rfl, rfl⟩
  | succ k ih =>
    obtain ⟨u, hfirst, hrest⟩ := runCommands_cons_eq_next_iff.mp h
    have hin : ¬ Boundary s := by
      rw [boundary_iff (by omega)]
      omega
    have hnow : s.load = true := hon 0 s (Nat.zero_le _) rfl
    obtain rfl := eq_of_exec_tick hrun hfirst
    have hvcnt : (s.vcnt + 1#32).toNat = s.vcnt.toNat + 1 :=
      word_succ_toNat (by simp only [Config.uvInterval] at hk; omega)
    have hlater := ih (by simpa using hrun)
      (by simp only [dutyOutcome_vcnt, monitorOutcome_of_counting hnow hin, hvcnt]; omega)
      (fun j u hj hu => hon (j + 1) u (by omega) ((runCommands_cons_of_next hfirst (ticks j)).trans hu)) hrest
    simp only [dutyOutcome_vcnt, dutyOutcome_sense, dutyOutcome_senseDraws, monitorOutcome_of_counting hnow hin,
      hvcnt] at hlater
    rwa [Nat.add_right_comm, Nat.add_assoc] at hlater

/-- Settles O49: held while off, since the monitor does nothing; counted while on, and a boundary at the last place. -/
theorem intervalIsHeldWhileOffAndResumes : Obligations.IntervalIsHeldWhileOffAndResumes := by
  refine ⟨fun s t hrun hoff h => ?_, fun s k t hrun hbelow hk hon h => ?_⟩
  · obtain rfl := eq_of_exec_tick hrun h
    rw [monitorOutcome_of_off hoff, dutyOutcome_events]
    refine ⟨dutyOutcome_vcnt s, dutyOutcome_sense s, dutyOutcome_senseDraws s, fun x hx => ?_⟩
    obtain hnone | hcut | hback := loadChange_cases s.load (dutyOutcome s).load
    · simpa [hnone] using hx
    · simpa [hcut] using hx
    · simpa [hback] using hx
  · have hplace : s.vcnt.toNat + k < Config.uvInterval := by omega
    obtain ⟨hvcnt, hsense, hdraws⟩ := ticks_count_interval hrun hplace hon h
    refine ⟨hvcnt, hsense, hdraws, ?_⟩
    rw [boundary_iff (hvcnt ▸ hplace), hvcnt]
    omega

/-! ### LOAD's events: none in a window, and one for a change -/

theorem mem_windowEvents_load (s : State) : Event.loadOn ∉ windowEvents s ∧ Event.loadOff ∉ windowEvents s := by
  simp [windowEvents]

theorem loadOff_mem_loadChange_iff (old new : Bool) : .loadOff ∈ loadChange old new ↔ old = true ∧ new = false := by
  revert old new; decide

theorem loadOn_mem_loadChange_iff (old new : Bool) : .loadOn ∈ loadChange old new ↔ old = false ∧ new = true := by
  revert old new; decide

/-! ### ProtectionOnly mode (R106) -/

/-- From `s` to `t` LOAD_ON is not emitted, and LOAD_OFF once for each time LATCH becomes 1: LATCH counts them. -/
def CutsOnlyByLatching (s t : State) : Prop :=
  ∃ ev, t.events = s.events ++ ev ∧ .loadOn ∉ ev ∧ s.latch.toNat + ev.count .loadOff = t.latch.toNat

theorem cutsOnlyByLatching_refl (s : State) : CutsOnlyByLatching s s := ⟨[], by simp⟩

theorem CutsOnlyByLatching.trans {s t u : State} (hst : CutsOnlyByLatching s t) (htu : CutsOnlyByLatching t u) :
    CutsOnlyByLatching s u := by
  obtain ⟨ev, hev, hno, hcount⟩ := hst
  obtain ⟨ev', hev', hno', hcount'⟩ := htu
  refine ⟨ev ++ ev', by rw [hev', hev, List.append_assoc], by simp [hno, hno'], ?_⟩
  rw [List.count_append]
  omega

/-- The monitor cuts the load by a trip only, and where the load is on LATCH is 0 before it. -/
theorem monitorOutcome_cutsOnlyByLatching {s : State} (h : MachineInv s) : CutsOnlyByLatching s (monitorOutcome s) := by
  obtain ⟨hwindowOn, hwindowOff⟩ := mem_windowEvents_load s
  obtain ⟨-, hout⟩ | ⟨-, -, hout⟩ | ⟨hon, -, -, hout⟩ | ⟨-, -, -, hout⟩ := monitorOutcome_cases s
  all_goals rw [hout]
  · exact cutsOnlyByLatching_refl s
  · exact ⟨[], by simp⟩
  · obtain ⟨-, hfree⟩ := h.loadMirrors.mp hon
    exact ⟨windowEvents s ++ [.loadOff], List.append_assoc .., by simp [hwindowOn],
      by simp [hfree, List.count_eq_zero.mpr hwindowOff]⟩
  · exact ⟨windowEvents s, rfl, hwindowOn, by simp [afterWindow, List.count_eq_zero.mpr hwindowOff]⟩

/-- What every command but RESET keeps in a RUN phase of ProtectionOnly mode that began in `s`. -/
structure Guarding (s t : State) : Prop where
  inv : MachineInv t
  run : t.phase = .run
  mode : t.mode = .protectionOnly
  cuts : CutsOnlyByLatching s t

theorem Guarding.exec {i : Instr} {s t u : State} (h : Guarding s t) (hi : i ≠ .reset) (hexec : exec i t = .next u) :
    Guarding s u where
  inv := exec_keeps_machineInv h.inv hexec
  run := exec_phase_run hexec hi h.run
  mode := Eq.trans (keepsOthers_run h.run hi hexec .mode (by decide)) h.mode
  cuts := by
    obtain rfl | ⟨-, rfl⟩ := exec_run_cases h.run hi hexec
    · exact h.cuts
    · rw [dutyOutcome_of_gated (.inl ((monitorOutcome_mode t).trans h.mode))]
      exact h.cuts.trans (monitorOutcome_cutsOnlyByLatching h.inv)

theorem toNat_lt_toNat_iff (x y : Bool) : x.toNat < y.toNat ↔ x = false ∧ y = true := by
  revert x y; decide

/-- Settles O48: the run keeps the guarding, and LATCH, one bit, bounds the number of cuts. -/
theorem protectionOnlyNeverCyclesTheLoad : Obligations.ProtectionOnlyNeverCyclesTheLoad := by
  intro s is t hinv hrun hmode hno h
  have hguard : Guarding s t := runCommands_keeps (P := Guarding s)
    (fun i hi _ _ hu hexec => hu.exec (fun hreset => hno (hreset ▸ hi)) hexec)
    ⟨hinv, hrun, hmode, cutsOnlyByLatching_refl s⟩ h
  obtain ⟨hon, hdcnt⟩ := hguard.inv.protectionOnly hguard.mode
  obtain ⟨ev, hev, hnoOn, hcount⟩ := hguard.cuts
  refine ⟨hon, hdcnt, ev, hev, hnoOn, ?_, ?_⟩
  · have hbit := Bool.toNat_le t.latch
    omega
  · rw [← List.count_pos_iff, ← toNat_lt_toNat_iff]
    omega

/-! ### The duty cycle (R104) -/

/-- DUTY, LOAD and DCNT at the place `k` of a cycle that begins with `a` ticks on. -/
def DutyAt (a k : Nat) (s : State) : Prop :=
  (k < a ∧ s.duty = dutyOn ∧ s.load = true ∧ s.dcnt.toNat = k) ∨
  (a ≤ k ∧ s.duty = dutyOff ∧ s.load = false ∧ s.dcnt.toNat + a = k)

/-- The block runs its duty cycle of `a` ticks on and `b` off, unlatched, and stands at the place `k` of it. -/
structure AtPlace (a b k : Nat) (s : State) : Prop where
  run : s.phase = .run
  mode : s.mode = .fullFeature
  latch : s.latch = false
  onTicks : a = max s.onCnt.toNat 1
  offTicks : b = max s.offCnt.toNat 1
  below : k < a + b
  duty : DutyAt a k s

theorem load_iff_of_dutyAt {a k : Nat} {s : State} (h : DutyAt a k s) : s.load = true ↔ k < a := by
  obtain ⟨hk, -, hload, -⟩ | ⟨hk, -, hload, -⟩ := h
  · exact iff_of_true hload hk
  · exact iff_of_false (by simp [hload]) hk.not_gt

section
variable {a b k : Nat} {s : State} (h : AtPlace a b k s)
include h

/-- The place after `k`: the next, or the start where the cycle ends. -/
theorem AtPlace.next_place : (k + 1) % (a + b) = if k + 1 = a + b then 0 else k + 1 := by
  have hbelow := h.below
  split_ifs with hend
  · rw [hend, Nat.mod_self]
  · exact Nat.mod_eq_of_lt (by omega)

/-- The state machine moves one place: in each half it counts below the half's count and changes over at it. -/
theorem AtPlace.dutyAt_dutyOutcome : DutyAt a ((k + 1) % (a + b)) (dutyOutcome s) := by
  have hon := h.onTicks
  have hoff := h.offTicks
  have hbelow := h.below
  have hnext := h.next_place
  obtain ⟨hk, hduty, hload, hdcnt⟩ | ⟨hk, hduty, hload, hdcnt⟩ := h.duty
  · have hreach : s.onCnt.toNat ≤ (s.dcnt.toNat + 1) % 2 ^ 32 ↔ k + 1 = a := by omega
    rw [dutyOutcome_of_on h.mode h.latch hduty, hnext, if_neg (by omega)]
    split_ifs with hcount
    · rw [hreach] at hcount
      exact .inr ⟨by omega, rfl, rfl, by simp [hcount]⟩
    · rw [hreach] at hcount
      exact .inl ⟨by omega, hduty, hload, by rw [word_succ_toNat (by omega), hdcnt]⟩
  · have hreach : s.offCnt.toNat ≤ (s.dcnt.toNat + 1) % 2 ^ 32 ↔ k + 1 = a + b := by omega
    rw [dutyOutcome_of_off h.mode h.latch hduty, hnext]
    by_cases hend : k + 1 = a + b
    · rw [if_pos (hreach.2 hend), if_pos hend]
      exact .inl ⟨by omega, rfl, rfl, rfl⟩
    · rw [if_neg (mt hreach.1 hend), if_neg hend]
      exact .inr ⟨by omega, hduty, hload, by rw [word_succ_toNat (by omega)]; omega⟩

theorem AtPlace.after_stateMachine : AtPlace a b ((k + 1) % (a + b)) (dutyOutcome s) where
  run := (dutyOutcome_phase s).trans h.run
  mode := (dutyOutcome_mode s).trans h.mode
  latch := (dutyOutcome_latch s).trans h.latch
  onTicks := by rw [dutyOutcome_onCnt, ← h.onTicks]
  offTicks := by rw [dutyOutcome_offCnt, ← h.offTicks]
  below := Nat.mod_lt _ (Nat.zero_lt_of_lt h.below)
  duty := h.dutyAt_dutyOutcome

/-- Without a trip the monitor leaves the place alone. -/
theorem AtPlace.after_monitor (hfree : (monitorOutcome s).latch = false) : AtPlace a b k (monitorOutcome s) where
  run := (monitorOutcome_phase s).trans h.run
  mode := (monitorOutcome_mode s).trans h.mode
  latch := hfree
  onTicks := by rw [monitorOutcome_onCnt, ← h.onTicks]
  offTicks := by rw [monitorOutcome_offCnt, ← h.offTicks]
  below := h.below
  duty := by
    rw [DutyAt, monitorOutcome_duty, monitorOutcome_dcnt, monitorOutcome_load hfree]
    exact h.duty

/-- Leaving the ON half is going to place `a`, and leaving the OFF half is going to place 0. -/
theorem AtPlace.loadChange_iff :
    (.loadOff ∈ loadChange s.load (dutyOutcome s).load ↔ (k + 1) % (a + b) = a) ∧
    (.loadOn ∈ loadChange s.load (dutyOutcome s).load ↔ (k + 1) % (a + b) = 0) := by
  have hon := h.onTicks
  have hoff := h.offTicks
  have hbelow := h.below
  rw [loadOff_mem_loadChange_iff, loadOn_mem_loadChange_iff, ← Bool.not_eq_true, ← Bool.not_eq_true,
    load_iff_of_dutyAt h.duty, load_iff_of_dutyAt h.dutyAt_dutyOutcome, h.next_place]
  constructor
  · split_ifs <;> omega
  · split_ifs
    · exact iff_of_true ⟨by omega, by omega⟩ rfl
    · exact iff_of_false (by omega) not_false

end

/-- Without a trip the monitor's events are those of a window, or none. -/
theorem monitorOutcome_events_of_free {s : State} (hfree : (monitorOutcome s).latch = false) :
    ∃ ev, (monitorOutcome s).events = s.events ++ ev ∧ .loadOn ∉ ev ∧ .loadOff ∉ ev := by
  obtain ⟨-, hout⟩ | ⟨-, -, hout⟩ | ⟨-, -, -, hout⟩ | ⟨-, -, -, hout⟩ := monitorOutcome_cases s
  all_goals rw [hout] at hfree ⊢
  · exact ⟨[], by simp⟩
  · exact ⟨[], by simp⟩
  · exact Bool.noConfusion hfree
  · exact ⟨windowEvents s, rfl, mem_windowEvents_load s⟩

/-- A tick without a trip moves one place, and its LOAD events are those of the two ends of a half. -/
theorem AtPlace.tick {a b k : Nat} {s u : State} (h : AtPlace a b k s) (hexec : exec .tick s = .next u)
    (hfree : u.latch = false) :
    AtPlace a b ((k + 1) % (a + b)) u ∧
      ∃ ev, u.events = s.events ++ ev ∧ (.loadOff ∈ ev ↔ (k + 1) % (a + b) = a) ∧
        (.loadOn ∈ ev ↔ (k + 1) % (a + b) = 0) := by
  obtain rfl := eq_of_exec_tick h.run hexec
  rw [dutyOutcome_latch] at hfree
  have hplace := h.after_monitor hfree
  obtain ⟨ev, hev, hnoOn, hnoOff⟩ := monitorOutcome_events_of_free hfree
  obtain ⟨hoff, hon⟩ := hplace.loadChange_iff
  refine ⟨hplace.after_stateMachine,
    ev ++ loadChange (monitorOutcome s).load (dutyOutcome (monitorOutcome s)).load, ?_, ?_, ?_⟩
  · rw [dutyOutcome_events, hev, List.append_assoc]
  · rw [List.mem_append, or_iff_right hnoOff, hoff]
  · rw [List.mem_append, or_iff_right hnoOn, hon]

/-- LATCH does not go back during a run of ticks, so before one that ends unlatched it is 0 (R27). -/
theorem latch_before_ticks {n : Nat} {s t : State} (hrun : s.phase = .run) (h : runCommands (ticks n) s = .next t)
    (hfree : t.latch = false) : s.latch = false := by
  by_contra hset
  have hkept : t.phase = .run ∧ t.latch = true := by
    refine runCommands_keeps (P := fun u => u.phase = .run ∧ u.latch = true) ?_ ⟨hrun, by simpa using hset⟩ h
    rintro i hi u v ⟨hphase, hlatched⟩ hexec
    obtain rfl := List.eq_of_mem_replicate hi
    obtain rfl := eq_of_exec_tick hphase hexec
    simp [hphase, dutyOutcome_latch, monitorOutcome_latch, hlatched]
  exact Bool.false_ne_true (hfree.symm.trans hkept.2)

theorem AtPlace.ticks {a b k n : Nat} {s t : State} (h : AtPlace a b k s) (hexec : runCommands (ticks n) s = .next t)
    (hfree : t.latch = false) : AtPlace a b ((k + n) % (a + b)) t := by
  induction n generalizing k s with
  | zero =>
    obtain rfl := Host.Outcome.next.inj hexec
    rwa [Nat.add_zero, Nat.mod_eq_of_lt h.below]
  | succ n ih =>
    obtain ⟨u, hfirst, hrest⟩ := runCommands_cons_eq_next_iff.mp hexec
    have hrun := exec_phase_run hfirst (by decide) h.run
    obtain ⟨hplace, -⟩ := h.tick hfirst (latch_before_ticks hrun hrest hfree)
    have hlast := ih hplace hrest
    rwa [Nat.mod_add_mod, Nat.add_right_comm, Nat.add_assoc] at hlast

/-- Settles O47: RUN phase begins at place 0, and `n` ticks lead to the place `n mod (a + b)`. -/
theorem dutyCycleHasItsPeriods : Obligations.DutyCycleHasItsPeriods := by
  intro s a b hrun hfull hduty hdcnt hload hlatch ha hb n t h hfree
  have hstart : AtPlace a b 0 s :=
    ⟨hrun, hfull, hlatch, ha, hb, by omega, .inl ⟨by omega, hduty, hload, by simp [hdcnt]⟩⟩
  have hplace : AtPlace a b (n % (a + b)) t := Nat.zero_add n ▸ hstart.ticks h hfree
  refine ⟨load_iff_of_dutyAt hplace.duty, fun u hu hfreeAfter => ?_⟩
  obtain ⟨-, hevents⟩ := hplace.tick hu hfreeAfter
  rwa [Nat.mod_add_mod] at hevents

end Sys2Proof.Proofs.TickInferences
